-- ==== Sys2Proof/Word.lean ====
section
/-! DEFINITION. The two widths of the machine (00_scope.md R6, R8): `u8` and `u16`. -/

namespace Sys2Proof

/-- `u8` (R8): the width of every register but PC, and of one bus transfer. -/
abbrev Byte := BitVec 8

/-- `u16` (R8): the width of PC and of an address. -/
abbrev Word := BitVec 16

end Sys2Proof
end

