-- ==== Sys2Proof/Syntax.lean ====
section
/-! DEFINITION. The instruction set as syntax (30_encoding.md R90 to R96, 46_undocumented.md R290),
and the cartridge image a machine is built from (20_memory.md R67).

An instruction is an operation and an operand form: "a dispatch over addressing-mode variant composed
with a dispatch over operation variant" (R94). Every row of the opcode table is one constructor of
`Instr` applied to one form; rows with the same operation and the same form (JAM, the undocumented
NOPs, ANC) differ in an index that says which opcode byte they are. Lean cannot compile an inductive
of 256 constructors (notes/assumptions/24.md). -/

namespace Sys2Proof

/-- The forms that name a byte of memory: R124 to R129, R131, R132. -/
inductive MemOperand
  /-- `$nn` (R124) -/
  | zp   (a : Byte)
  /-- `$nn,X` (R125) -/
  | zpX  (a : Byte)
  /-- `$nn,Y` (R126) -/
  | zpY  (a : Byte)
  /-- `$nnnn` (R127) -/
  | abs  (w : Word)
  /-- `$nnnn,X` (R128) -/
  | absX (w : Word)
  /-- `$nnnn,Y` (R129) -/
  | absY (w : Word)
  /-- `($nn,X)` (R131) -/
  | indX (z : Byte)
  /-- `($nn),Y` (R132) -/
  | indY (z : Byte)
  deriving DecidableEq, Repr

/-- Where a read instruction finds its operand `M` (R136): the immediate byte (R123) or memory. -/
inductive Source
  | imm (b : Byte)
  | mem (m : MemOperand)
  deriving DecidableEq, Repr

/-- What a shift, rotate, increment or decrement works on (R137): the accumulator (R122) or memory. -/
inductive Place
  | acc
  | mem (m : MemOperand)
  deriving DecidableEq, Repr

/-- Where SHA stores: its two forms, `abs,Y` and `(zp),Y` (R311). -/
inductive ShaOperand
  | absY (w : Word)
  | indY (z : Byte)
  deriving DecidableEq, Repr

/-- The high digit of the twelve JAM opcodes `$x2` (R291). -/
inductive JamRow
  | r0 | r1 | r2 | r3 | r4 | r5 | r6 | r7 | r9 | rB | rD | rF
  deriving DecidableEq, Repr

/-- The high digit of the undocumented NOPs `$xA` (R292), and of `$x4` zp,X and `$xC` abs,X (R294). -/
inductive NopRow
  | r1 | r3 | r5 | r7 | rD | rF
  deriving DecidableEq, Repr

/-- The high digit of the undocumented NOPs `$x4` zp (R294). -/
inductive NopZpRow
  | r0 | r4 | r6
  deriving DecidableEq, Repr

/-- The opcode of an undocumented NOP with an immediate operand (R293). -/
inductive NopImmRow
  | o80 | o82 | o89 | oC2 | oE2
  deriving DecidableEq, Repr

/-- The high digit of the two ANC opcodes `$xB` (R303). -/
inductive AncRow
  | r0 | r2
  deriving DecidableEq, Repr

/-- The instruction set of R95, R96. A constructor's docstring names the rule that gives its meaning. -/
inductive Instr
  /-- R150 -/
  | lda (o : Source)
  /-- R151 -/
  | ldx (o : Source)
  /-- R152 -/
  | ldy (o : Source)
  /-- R153 -/
  | sta (m : MemOperand)
  /-- R154 -/
  | stx (m : MemOperand)
  /-- R155 -/
  | sty (m : MemOperand)
  /-- R156 -/
  | tax
  /-- R157 -/
  | tay
  /-- R158 -/
  | txa
  /-- R159 -/
  | tya
  /-- R160 -/
  | tsx
  /-- R161 -/
  | txs
  /-- R180 -/
  | pha
  /-- R181 -/
  | php
  /-- R182 -/
  | pla
  /-- R183 -/
  | plp
  /-- R192 -/
  | adc (o : Source)
  /-- R193 -/
  | sbc (o : Source)
  /-- R194 -/
  | and (o : Source)
  /-- R195 -/
  | ora (o : Source)
  /-- R196 -/
  | eor (o : Source)
  /-- R197 -/
  | cmp (o : Source)
  /-- R198 -/
  | cpx (o : Source)
  /-- R199 -/
  | cpy (o : Source)
  /-- R200 -/
  | bit (m : MemOperand)
  /-- R201 -/
  | inc (m : MemOperand)
  /-- R202 -/
  | dec (m : MemOperand)
  /-- R203 -/
  | inx
  /-- R204 -/
  | iny
  /-- R205 -/
  | dex
  /-- R206 -/
  | dey
  /-- R230 -/
  | asl (p : Place)
  /-- R231 -/
  | lsr (p : Place)
  /-- R232 -/
  | rol (p : Place)
  /-- R233 -/
  | ror (p : Place)
  /-- R250, `JMP $nnnn` -/
  | jmpAbs (w : Word)
  /-- R250, `JMP ($nnnn)` -/
  | jmpInd (w : Word)
  /-- R251 -/
  | jsr (w : Word)
  /-- R252 -/
  | rts
  /-- R254 -/
  | bcc (off : Byte)
  /-- R255 -/
  | bcs (off : Byte)
  /-- R256 -/
  | beq (off : Byte)
  /-- R257 -/
  | bne (off : Byte)
  /-- R258 -/
  | bmi (off : Byte)
  /-- R259 -/
  | bpl (off : Byte)
  /-- R260 -/
  | bvc (off : Byte)
  /-- R261 -/
  | bvs (off : Byte)
  /-- R262, with its padding byte -/
  | brk (pad : Byte)
  /-- R263 -/
  | rti
  /-- R264 -/
  | clc
  /-- R265 -/
  | sec
  /-- R266 -/
  | cli
  /-- R267 -/
  | sei
  /-- R268 -/
  | cld
  /-- R269 -/
  | sed
  /-- R270 -/
  | clv
  /-- R271, the documented NOP `$EA` -/
  | nop
  /-- R291 -/
  | jam (r : JamRow)
  /-- R292 -/
  | nopImplied (r : NopRow)
  /-- R293 -/
  | nopImm (r : NopImmRow) (b : Byte)
  /-- R294, zp -/
  | nopZp (r : NopZpRow) (a : Byte)
  /-- R294, zp,X -/
  | nopZpX (r : NopRow) (a : Byte)
  /-- R294, abs -/
  | nopAbs (w : Word)
  /-- R294, abs,X -/
  | nopAbsX (r : NopRow) (w : Word)
  /-- R295 -/
  | slo (m : MemOperand)
  /-- R296 -/
  | rla (m : MemOperand)
  /-- R297 -/
  | sre (m : MemOperand)
  /-- R298 -/
  | rra (m : MemOperand)
  /-- R299 -/
  | sax (m : MemOperand)
  /-- R300 -/
  | lax (m : MemOperand)
  /-- R301 -/
  | dcp (m : MemOperand)
  /-- R302 -/
  | isc (m : MemOperand)
  /-- R303 -/
  | anc (r : AncRow) (b : Byte)
  /-- R304 -/
  | alr (b : Byte)
  /-- R305 -/
  | arr (b : Byte)
  /-- R306 -/
  | ane (b : Byte)
  /-- R307 -/
  | lxa (b : Byte)
  /-- R308 -/
  | sbx (b : Byte)
  /-- R309, the copy `$EB` of `SBC #` -/
  | sbcEB (b : Byte)
  /-- R311 -/
  | sha (o : ShaOperand)
  /-- R312, `abs,Y` -/
  | shx (w : Word)
  /-- R313, `abs,X` -/
  | shy (w : Word)
  /-- R314, `abs,Y` -/
  | tas (w : Word)
  /-- R315, `abs,Y` -/
  | las (w : Word)
  deriving DecidableEq, Repr

/-- What the ROM-loading collaborator "supplies ... to the Mapper/Cartridge at construction time" (R67):
the program, since "the program is bytes in the 64 KiB address space" (R5). -/
structure CartridgeImage where
  /-- the PRG ROM bytes, first byte first -/
  prg       : List Byte
  /-- the CHR ROM bytes -/
  chr       : List Byte
  /-- the nametable mirroring mode, "stored, uninterpreted" (R7) -/
  mirroring : Nat
  /-- the mapper identifier -/
  mapperId  : Nat
  deriving DecidableEq, Repr

end Sys2Proof
end

