-- ==== Sys2Proof/Decode.lean ====
section
/-! DEFINITION. Bytes to instructions and back (30_encoding.md): the byte helpers, the decoder, the
descriptor table of R94 and R96, and the encoder. -/

namespace Sys2Proof

/-- `cat(h, l)` (R8): `h * 256 + l`. -/
def cat (h l : Byte) : Word := h ++ l

/-- `lo(w) = w[7:0]` (R8). -/
def loByte (w : Word) : Byte := w.extractLsb' 0 8

/-- `hi(w) = w[15:8]` (R8): the page of the address `w`. -/
def hiByte (w : Word) : Byte := w.extractLsb' 8 8

/-- `zext_16(b)` (R8). -/
def zext16 (b : Byte) : Word := b.setWidth 16

/-- `sext_16(b)` (R8): a branch offset is two's complement. -/
def sext16 (b : Byte) : Word := b.signExtend 16

/-- The addressing modes (40_addressing.md R121 to R133), and BRK's opcode plus padding byte (R90). -/
inductive Mode
  | imp | acc | imm | zp | zpX | zpY | abs | absX | absY | ind | indX | indY | rel | brk
  deriving DecidableEq, Repr

/-- One row of the opcode table: "mnemonic, addressing mode, base cycle count, flag indicating
illegal/undefined opcode" (R94), with R96's length and page-cross column. -/
structure Descriptor where
  mnemonic    : String
  mode        : Mode
  /-- in bytes, the opcode included -/
  length      : Nat
  /-- base cycles -/
  cycles      : Nat
  /-- the +1 of R135 applies -/
  pagePenalty : Bool
  /-- one of the 151 documented combinations -/
  documented  : Bool
  deriving DecidableEq, Repr

/-- The instruction of an opcode byte and the operand bytes after it, as far as its length goes (R91,
R95, R96). Total: no opcode byte is reserved (R98). The bit pattern `aaabbbcc` (R97) is a law of this function and of
`descriptor` (Laws/Encoding.lean). The last arm is `$FF`, the only value left. -/
def decodeOpcode (op b1 b2 : Byte) : Instr :=
  match op.toNat with
  | 0x00 => .brk b1
  | 0x01 => .ora (.mem (.indX b1))
  | 0x02 => .jam .r0
  | 0x03 => .slo (.indX b1)
  | 0x04 => .nopZp .r0 b1
  | 0x05 => .ora (.mem (.zp b1))
  | 0x06 => .asl (.mem (.zp b1))
  | 0x07 => .slo (.zp b1)
  | 0x08 => .php
  | 0x09 => .ora (.imm b1)
  | 0x0A => .asl .acc
  | 0x0B => .anc .r0 b1
  | 0x0C => .nopAbs (cat b2 b1)
  | 0x0D => .ora (.mem (.abs (cat b2 b1)))
  | 0x0E => .asl (.mem (.abs (cat b2 b1)))
  | 0x0F => .slo (.abs (cat b2 b1))
  | 0x10 => .bpl b1
  | 0x11 => .ora (.mem (.indY b1))
  | 0x12 => .jam .r1
  | 0x13 => .slo (.indY b1)
  | 0x14 => .nopZpX .r1 b1
  | 0x15 => .ora (.mem (.zpX b1))
  | 0x16 => .asl (.mem (.zpX b1))
  | 0x17 => .slo (.zpX b1)
  | 0x18 => .clc
  | 0x19 => .ora (.mem (.absY (cat b2 b1)))
  | 0x1A => .nopImplied .r1
  | 0x1B => .slo (.absY (cat b2 b1))
  | 0x1C => .nopAbsX .r1 (cat b2 b1)
  | 0x1D => .ora (.mem (.absX (cat b2 b1)))
  | 0x1E => .asl (.mem (.absX (cat b2 b1)))
  | 0x1F => .slo (.absX (cat b2 b1))
  | 0x20 => .jsr (cat b2 b1)
  | 0x21 => .and (.mem (.indX b1))
  | 0x22 => .jam .r2
  | 0x23 => .rla (.indX b1)
  | 0x24 => .bit (.zp b1)
  | 0x25 => .and (.mem (.zp b1))
  | 0x26 => .rol (.mem (.zp b1))
  | 0x27 => .rla (.zp b1)
  | 0x28 => .plp
  | 0x29 => .and (.imm b1)
  | 0x2A => .rol .acc
  | 0x2B => .anc .r2 b1
  | 0x2C => .bit (.abs (cat b2 b1))
  | 0x2D => .and (.mem (.abs (cat b2 b1)))
  | 0x2E => .rol (.mem (.abs (cat b2 b1)))
  | 0x2F => .rla (.abs (cat b2 b1))
  | 0x30 => .bmi b1
  | 0x31 => .and (.mem (.indY b1))
  | 0x32 => .jam .r3
  | 0x33 => .rla (.indY b1)
  | 0x34 => .nopZpX .r3 b1
  | 0x35 => .and (.mem (.zpX b1))
  | 0x36 => .rol (.mem (.zpX b1))
  | 0x37 => .rla (.zpX b1)
  | 0x38 => .sec
  | 0x39 => .and (.mem (.absY (cat b2 b1)))
  | 0x3A => .nopImplied .r3
  | 0x3B => .rla (.absY (cat b2 b1))
  | 0x3C => .nopAbsX .r3 (cat b2 b1)
  | 0x3D => .and (.mem (.absX (cat b2 b1)))
  | 0x3E => .rol (.mem (.absX (cat b2 b1)))
  | 0x3F => .rla (.absX (cat b2 b1))
  | 0x40 => .rti
  | 0x41 => .eor (.mem (.indX b1))
  | 0x42 => .jam .r4
  | 0x43 => .sre (.indX b1)
  | 0x44 => .nopZp .r4 b1
  | 0x45 => .eor (.mem (.zp b1))
  | 0x46 => .lsr (.mem (.zp b1))
  | 0x47 => .sre (.zp b1)
  | 0x48 => .pha
  | 0x49 => .eor (.imm b1)
  | 0x4A => .lsr .acc
  | 0x4B => .alr b1
  | 0x4C => .jmpAbs (cat b2 b1)
  | 0x4D => .eor (.mem (.abs (cat b2 b1)))
  | 0x4E => .lsr (.mem (.abs (cat b2 b1)))
  | 0x4F => .sre (.abs (cat b2 b1))
  | 0x50 => .bvc b1
  | 0x51 => .eor (.mem (.indY b1))
  | 0x52 => .jam .r5
  | 0x53 => .sre (.indY b1)
  | 0x54 => .nopZpX .r5 b1
  | 0x55 => .eor (.mem (.zpX b1))
  | 0x56 => .lsr (.mem (.zpX b1))
  | 0x57 => .sre (.zpX b1)
  | 0x58 => .cli
  | 0x59 => .eor (.mem (.absY (cat b2 b1)))
  | 0x5A => .nopImplied .r5
  | 0x5B => .sre (.absY (cat b2 b1))
  | 0x5C => .nopAbsX .r5 (cat b2 b1)
  | 0x5D => .eor (.mem (.absX (cat b2 b1)))
  | 0x5E => .lsr (.mem (.absX (cat b2 b1)))
  | 0x5F => .sre (.absX (cat b2 b1))
  | 0x60 => .rts
  | 0x61 => .adc (.mem (.indX b1))
  | 0x62 => .jam .r6
  | 0x63 => .rra (.indX b1)
  | 0x64 => .nopZp .r6 b1
  | 0x65 => .adc (.mem (.zp b1))
  | 0x66 => .ror (.mem (.zp b1))
  | 0x67 => .rra (.zp b1)
  | 0x68 => .pla
  | 0x69 => .adc (.imm b1)
  | 0x6A => .ror .acc
  | 0x6B => .arr b1
  | 0x6C => .jmpInd (cat b2 b1)
  | 0x6D => .adc (.mem (.abs (cat b2 b1)))
  | 0x6E => .ror (.mem (.abs (cat b2 b1)))
  | 0x6F => .rra (.abs (cat b2 b1))
  | 0x70 => .bvs b1
  | 0x71 => .adc (.mem (.indY b1))
  | 0x72 => .jam .r7
  | 0x73 => .rra (.indY b1)
  | 0x74 => .nopZpX .r7 b1
  | 0x75 => .adc (.mem (.zpX b1))
  | 0x76 => .ror (.mem (.zpX b1))
  | 0x77 => .rra (.zpX b1)
  | 0x78 => .sei
  | 0x79 => .adc (.mem (.absY (cat b2 b1)))
  | 0x7A => .nopImplied .r7
  | 0x7B => .rra (.absY (cat b2 b1))
  | 0x7C => .nopAbsX .r7 (cat b2 b1)
  | 0x7D => .adc (.mem (.absX (cat b2 b1)))
  | 0x7E => .ror (.mem (.absX (cat b2 b1)))
  | 0x7F => .rra (.absX (cat b2 b1))
  | 0x80 => .nopImm .o80 b1
  | 0x81 => .sta (.indX b1)
  | 0x82 => .nopImm .o82 b1
  | 0x83 => .sax (.indX b1)
  | 0x84 => .sty (.zp b1)
  | 0x85 => .sta (.zp b1)
  | 0x86 => .stx (.zp b1)
  | 0x87 => .sax (.zp b1)
  | 0x88 => .dey
  | 0x89 => .nopImm .o89 b1
  | 0x8A => .txa
  | 0x8B => .ane b1
  | 0x8C => .sty (.abs (cat b2 b1))
  | 0x8D => .sta (.abs (cat b2 b1))
  | 0x8E => .stx (.abs (cat b2 b1))
  | 0x8F => .sax (.abs (cat b2 b1))
  | 0x90 => .bcc b1
  | 0x91 => .sta (.indY b1)
  | 0x92 => .jam .r9
  | 0x93 => .sha (.indY b1)
  | 0x94 => .sty (.zpX b1)
  | 0x95 => .sta (.zpX b1)
  | 0x96 => .stx (.zpY b1)
  | 0x97 => .sax (.zpY b1)
  | 0x98 => .tya
  | 0x99 => .sta (.absY (cat b2 b1))
  | 0x9A => .txs
  | 0x9B => .tas (cat b2 b1)
  | 0x9C => .shy (cat b2 b1)
  | 0x9D => .sta (.absX (cat b2 b1))
  | 0x9E => .shx (cat b2 b1)
  | 0x9F => .sha (.absY (cat b2 b1))
  | 0xA0 => .ldy (.imm b1)
  | 0xA1 => .lda (.mem (.indX b1))
  | 0xA2 => .ldx (.imm b1)
  | 0xA3 => .lax (.indX b1)
  | 0xA4 => .ldy (.mem (.zp b1))
  | 0xA5 => .lda (.mem (.zp b1))
  | 0xA6 => .ldx (.mem (.zp b1))
  | 0xA7 => .lax (.zp b1)
  | 0xA8 => .tay
  | 0xA9 => .lda (.imm b1)
  | 0xAA => .tax
  | 0xAB => .lxa b1
  | 0xAC => .ldy (.mem (.abs (cat b2 b1)))
  | 0xAD => .lda (.mem (.abs (cat b2 b1)))
  | 0xAE => .ldx (.mem (.abs (cat b2 b1)))
  | 0xAF => .lax (.abs (cat b2 b1))
  | 0xB0 => .bcs b1
  | 0xB1 => .lda (.mem (.indY b1))
  | 0xB2 => .jam .rB
  | 0xB3 => .lax (.indY b1)
  | 0xB4 => .ldy (.mem (.zpX b1))
  | 0xB5 => .lda (.mem (.zpX b1))
  | 0xB6 => .ldx (.mem (.zpY b1))
  | 0xB7 => .lax (.zpY b1)
  | 0xB8 => .clv
  | 0xB9 => .lda (.mem (.absY (cat b2 b1)))
  | 0xBA => .tsx
  | 0xBB => .las (cat b2 b1)
  | 0xBC => .ldy (.mem (.absX (cat b2 b1)))
  | 0xBD => .lda (.mem (.absX (cat b2 b1)))
  | 0xBE => .ldx (.mem (.absY (cat b2 b1)))
  | 0xBF => .lax (.absY (cat b2 b1))
  | 0xC0 => .cpy (.imm b1)
  | 0xC1 => .cmp (.mem (.indX b1))
  | 0xC2 => .nopImm .oC2 b1
  | 0xC3 => .dcp (.indX b1)
  | 0xC4 => .cpy (.mem (.zp b1))
  | 0xC5 => .cmp (.mem (.zp b1))
  | 0xC6 => .dec (.zp b1)
  | 0xC7 => .dcp (.zp b1)
  | 0xC8 => .iny
  | 0xC9 => .cmp (.imm b1)
  | 0xCA => .dex
  | 0xCB => .sbx b1
  | 0xCC => .cpy (.mem (.abs (cat b2 b1)))
  | 0xCD => .cmp (.mem (.abs (cat b2 b1)))
  | 0xCE => .dec (.abs (cat b2 b1))
  | 0xCF => .dcp (.abs (cat b2 b1))
  | 0xD0 => .bne b1
  | 0xD1 => .cmp (.mem (.indY b1))
  | 0xD2 => .jam .rD
  | 0xD3 => .dcp (.indY b1)
  | 0xD4 => .nopZpX .rD b1
  | 0xD5 => .cmp (.mem (.zpX b1))
  | 0xD6 => .dec (.zpX b1)
  | 0xD7 => .dcp (.zpX b1)
  | 0xD8 => .cld
  | 0xD9 => .cmp (.mem (.absY (cat b2 b1)))
  | 0xDA => .nopImplied .rD
  | 0xDB => .dcp (.absY (cat b2 b1))
  | 0xDC => .nopAbsX .rD (cat b2 b1)
  | 0xDD => .cmp (.mem (.absX (cat b2 b1)))
  | 0xDE => .dec (.absX (cat b2 b1))
  | 0xDF => .dcp (.absX (cat b2 b1))
  | 0xE0 => .cpx (.imm b1)
  | 0xE1 => .sbc (.mem (.indX b1))
  | 0xE2 => .nopImm .oE2 b1
  | 0xE3 => .isc (.indX b1)
  | 0xE4 => .cpx (.mem (.zp b1))
  | 0xE5 => .sbc (.mem (.zp b1))
  | 0xE6 => .inc (.zp b1)
  | 0xE7 => .isc (.zp b1)
  | 0xE8 => .inx
  | 0xE9 => .sbc (.imm b1)
  | 0xEA => .nop
  | 0xEB => .sbcEB b1
  | 0xEC => .cpx (.mem (.abs (cat b2 b1)))
  | 0xED => .sbc (.mem (.abs (cat b2 b1)))
  | 0xEE => .inc (.abs (cat b2 b1))
  | 0xEF => .isc (.abs (cat b2 b1))
  | 0xF0 => .beq b1
  | 0xF1 => .sbc (.mem (.indY b1))
  | 0xF2 => .jam .rF
  | 0xF3 => .isc (.indY b1)
  | 0xF4 => .nopZpX .rF b1
  | 0xF5 => .sbc (.mem (.zpX b1))
  | 0xF6 => .inc (.zpX b1)
  | 0xF7 => .isc (.zpX b1)
  | 0xF8 => .sed
  | 0xF9 => .sbc (.mem (.absY (cat b2 b1)))
  | 0xFA => .nopImplied .rF
  | 0xFB => .isc (.absY (cat b2 b1))
  | 0xFC => .nopAbsX .rF (cat b2 b1)
  | 0xFD => .sbc (.mem (.absX (cat b2 b1)))
  | 0xFE => .inc (.absX (cat b2 b1))
  | _ => .isc (.absX (cat b2 b1))

/-- The descriptor of an opcode byte: the 256 rows of R96, in the bit pattern of R97. The last
arm is `$FF`, the only value left. -/
def descriptor (op : Byte) : Descriptor :=
  match op.toNat with
  | 0x00 => ⟨"BRK", .brk, 2, 7, false, true⟩
  | 0x01 => ⟨"ORA", .indX, 2, 6, false, true⟩
  | 0x02 => ⟨"JAM", .imp, 1, 2, false, false⟩
  | 0x03 => ⟨"SLO", .indX, 2, 8, false, false⟩
  | 0x04 => ⟨"NOP", .zp, 2, 3, false, false⟩
  | 0x05 => ⟨"ORA", .zp, 2, 3, false, true⟩
  | 0x06 => ⟨"ASL", .zp, 2, 5, false, true⟩
  | 0x07 => ⟨"SLO", .zp, 2, 5, false, false⟩
  | 0x08 => ⟨"PHP", .imp, 1, 3, false, true⟩
  | 0x09 => ⟨"ORA", .imm, 2, 2, false, true⟩
  | 0x0A => ⟨"ASL", .acc, 1, 2, false, true⟩
  | 0x0B => ⟨"ANC", .imm, 2, 2, false, false⟩
  | 0x0C => ⟨"NOP", .abs, 3, 4, false, false⟩
  | 0x0D => ⟨"ORA", .abs, 3, 4, false, true⟩
  | 0x0E => ⟨"ASL", .abs, 3, 6, false, true⟩
  | 0x0F => ⟨"SLO", .abs, 3, 6, false, false⟩
  | 0x10 => ⟨"BPL", .rel, 2, 2, false, true⟩
  | 0x11 => ⟨"ORA", .indY, 2, 5, true, true⟩
  | 0x12 => ⟨"JAM", .imp, 1, 2, false, false⟩
  | 0x13 => ⟨"SLO", .indY, 2, 8, false, false⟩
  | 0x14 => ⟨"NOP", .zpX, 2, 4, false, false⟩
  | 0x15 => ⟨"ORA", .zpX, 2, 4, false, true⟩
  | 0x16 => ⟨"ASL", .zpX, 2, 6, false, true⟩
  | 0x17 => ⟨"SLO", .zpX, 2, 6, false, false⟩
  | 0x18 => ⟨"CLC", .imp, 1, 2, false, true⟩
  | 0x19 => ⟨"ORA", .absY, 3, 4, true, true⟩
  | 0x1A => ⟨"NOP", .imp, 1, 2, false, false⟩
  | 0x1B => ⟨"SLO", .absY, 3, 7, false, false⟩
  | 0x1C => ⟨"NOP", .absX, 3, 4, true, false⟩
  | 0x1D => ⟨"ORA", .absX, 3, 4, true, true⟩
  | 0x1E => ⟨"ASL", .absX, 3, 7, false, true⟩
  | 0x1F => ⟨"SLO", .absX, 3, 7, false, false⟩
  | 0x20 => ⟨"JSR", .abs, 3, 6, false, true⟩
  | 0x21 => ⟨"AND", .indX, 2, 6, false, true⟩
  | 0x22 => ⟨"JAM", .imp, 1, 2, false, false⟩
  | 0x23 => ⟨"RLA", .indX, 2, 8, false, false⟩
  | 0x24 => ⟨"BIT", .zp, 2, 3, false, true⟩
  | 0x25 => ⟨"AND", .zp, 2, 3, false, true⟩
  | 0x26 => ⟨"ROL", .zp, 2, 5, false, true⟩
  | 0x27 => ⟨"RLA", .zp, 2, 5, false, false⟩
  | 0x28 => ⟨"PLP", .imp, 1, 4, false, true⟩
  | 0x29 => ⟨"AND", .imm, 2, 2, false, true⟩
  | 0x2A => ⟨"ROL", .acc, 1, 2, false, true⟩
  | 0x2B => ⟨"ANC", .imm, 2, 2, false, false⟩
  | 0x2C => ⟨"BIT", .abs, 3, 4, false, true⟩
  | 0x2D => ⟨"AND", .abs, 3, 4, false, true⟩
  | 0x2E => ⟨"ROL", .abs, 3, 6, false, true⟩
  | 0x2F => ⟨"RLA", .abs, 3, 6, false, false⟩
  | 0x30 => ⟨"BMI", .rel, 2, 2, false, true⟩
  | 0x31 => ⟨"AND", .indY, 2, 5, true, true⟩
  | 0x32 => ⟨"JAM", .imp, 1, 2, false, false⟩
  | 0x33 => ⟨"RLA", .indY, 2, 8, false, false⟩
  | 0x34 => ⟨"NOP", .zpX, 2, 4, false, false⟩
  | 0x35 => ⟨"AND", .zpX, 2, 4, false, true⟩
  | 0x36 => ⟨"ROL", .zpX, 2, 6, false, true⟩
  | 0x37 => ⟨"RLA", .zpX, 2, 6, false, false⟩
  | 0x38 => ⟨"SEC", .imp, 1, 2, false, true⟩
  | 0x39 => ⟨"AND", .absY, 3, 4, true, true⟩
  | 0x3A => ⟨"NOP", .imp, 1, 2, false, false⟩
  | 0x3B => ⟨"RLA", .absY, 3, 7, false, false⟩
  | 0x3C => ⟨"NOP", .absX, 3, 4, true, false⟩
  | 0x3D => ⟨"AND", .absX, 3, 4, true, true⟩
  | 0x3E => ⟨"ROL", .absX, 3, 7, false, true⟩
  | 0x3F => ⟨"RLA", .absX, 3, 7, false, false⟩
  | 0x40 => ⟨"RTI", .imp, 1, 6, false, true⟩
  | 0x41 => ⟨"EOR", .indX, 2, 6, false, true⟩
  | 0x42 => ⟨"JAM", .imp, 1, 2, false, false⟩
  | 0x43 => ⟨"SRE", .indX, 2, 8, false, false⟩
  | 0x44 => ⟨"NOP", .zp, 2, 3, false, false⟩
  | 0x45 => ⟨"EOR", .zp, 2, 3, false, true⟩
  | 0x46 => ⟨"LSR", .zp, 2, 5, false, true⟩
  | 0x47 => ⟨"SRE", .zp, 2, 5, false, false⟩
  | 0x48 => ⟨"PHA", .imp, 1, 3, false, true⟩
  | 0x49 => ⟨"EOR", .imm, 2, 2, false, true⟩
  | 0x4A => ⟨"LSR", .acc, 1, 2, false, true⟩
  | 0x4B => ⟨"ALR", .imm, 2, 2, false, false⟩
  | 0x4C => ⟨"JMP", .abs, 3, 3, false, true⟩
  | 0x4D => ⟨"EOR", .abs, 3, 4, false, true⟩
  | 0x4E => ⟨"LSR", .abs, 3, 6, false, true⟩
  | 0x4F => ⟨"SRE", .abs, 3, 6, false, false⟩
  | 0x50 => ⟨"BVC", .rel, 2, 2, false, true⟩
  | 0x51 => ⟨"EOR", .indY, 2, 5, true, true⟩
  | 0x52 => ⟨"JAM", .imp, 1, 2, false, false⟩
  | 0x53 => ⟨"SRE", .indY, 2, 8, false, false⟩
  | 0x54 => ⟨"NOP", .zpX, 2, 4, false, false⟩
  | 0x55 => ⟨"EOR", .zpX, 2, 4, false, true⟩
  | 0x56 => ⟨"LSR", .zpX, 2, 6, false, true⟩
  | 0x57 => ⟨"SRE", .zpX, 2, 6, false, false⟩
  | 0x58 => ⟨"CLI", .imp, 1, 2, false, true⟩
  | 0x59 => ⟨"EOR", .absY, 3, 4, true, true⟩
  | 0x5A => ⟨"NOP", .imp, 1, 2, false, false⟩
  | 0x5B => ⟨"SRE", .absY, 3, 7, false, false⟩
  | 0x5C => ⟨"NOP", .absX, 3, 4, true, false⟩
  | 0x5D => ⟨"EOR", .absX, 3, 4, true, true⟩
  | 0x5E => ⟨"LSR", .absX, 3, 7, false, true⟩
  | 0x5F => ⟨"SRE", .absX, 3, 7, false, false⟩
  | 0x60 => ⟨"RTS", .imp, 1, 6, false, true⟩
  | 0x61 => ⟨"ADC", .indX, 2, 6, false, true⟩
  | 0x62 => ⟨"JAM", .imp, 1, 2, false, false⟩
  | 0x63 => ⟨"RRA", .indX, 2, 8, false, false⟩
  | 0x64 => ⟨"NOP", .zp, 2, 3, false, false⟩
  | 0x65 => ⟨"ADC", .zp, 2, 3, false, true⟩
  | 0x66 => ⟨"ROR", .zp, 2, 5, false, true⟩
  | 0x67 => ⟨"RRA", .zp, 2, 5, false, false⟩
  | 0x68 => ⟨"PLA", .imp, 1, 4, false, true⟩
  | 0x69 => ⟨"ADC", .imm, 2, 2, false, true⟩
  | 0x6A => ⟨"ROR", .acc, 1, 2, false, true⟩
  | 0x6B => ⟨"ARR", .imm, 2, 2, false, false⟩
  | 0x6C => ⟨"JMP", .ind, 3, 5, false, true⟩
  | 0x6D => ⟨"ADC", .abs, 3, 4, false, true⟩
  | 0x6E => ⟨"ROR", .abs, 3, 6, false, true⟩
  | 0x6F => ⟨"RRA", .abs, 3, 6, false, false⟩
  | 0x70 => ⟨"BVS", .rel, 2, 2, false, true⟩
  | 0x71 => ⟨"ADC", .indY, 2, 5, true, true⟩
  | 0x72 => ⟨"JAM", .imp, 1, 2, false, false⟩
  | 0x73 => ⟨"RRA", .indY, 2, 8, false, false⟩
  | 0x74 => ⟨"NOP", .zpX, 2, 4, false, false⟩
  | 0x75 => ⟨"ADC", .zpX, 2, 4, false, true⟩
  | 0x76 => ⟨"ROR", .zpX, 2, 6, false, true⟩
  | 0x77 => ⟨"RRA", .zpX, 2, 6, false, false⟩
  | 0x78 => ⟨"SEI", .imp, 1, 2, false, true⟩
  | 0x79 => ⟨"ADC", .absY, 3, 4, true, true⟩
  | 0x7A => ⟨"NOP", .imp, 1, 2, false, false⟩
  | 0x7B => ⟨"RRA", .absY, 3, 7, false, false⟩
  | 0x7C => ⟨"NOP", .absX, 3, 4, true, false⟩
  | 0x7D => ⟨"ADC", .absX, 3, 4, true, true⟩
  | 0x7E => ⟨"ROR", .absX, 3, 7, false, true⟩
  | 0x7F => ⟨"RRA", .absX, 3, 7, false, false⟩
  | 0x80 => ⟨"NOP", .imm, 2, 2, false, false⟩
  | 0x81 => ⟨"STA", .indX, 2, 6, false, true⟩
  | 0x82 => ⟨"NOP", .imm, 2, 2, false, false⟩
  | 0x83 => ⟨"SAX", .indX, 2, 6, false, false⟩
  | 0x84 => ⟨"STY", .zp, 2, 3, false, true⟩
  | 0x85 => ⟨"STA", .zp, 2, 3, false, true⟩
  | 0x86 => ⟨"STX", .zp, 2, 3, false, true⟩
  | 0x87 => ⟨"SAX", .zp, 2, 3, false, false⟩
  | 0x88 => ⟨"DEY", .imp, 1, 2, false, true⟩
  | 0x89 => ⟨"NOP", .imm, 2, 2, false, false⟩
  | 0x8A => ⟨"TXA", .imp, 1, 2, false, true⟩
  | 0x8B => ⟨"ANE", .imm, 2, 2, false, false⟩
  | 0x8C => ⟨"STY", .abs, 3, 4, false, true⟩
  | 0x8D => ⟨"STA", .abs, 3, 4, false, true⟩
  | 0x8E => ⟨"STX", .abs, 3, 4, false, true⟩
  | 0x8F => ⟨"SAX", .abs, 3, 4, false, false⟩
  | 0x90 => ⟨"BCC", .rel, 2, 2, false, true⟩
  | 0x91 => ⟨"STA", .indY, 2, 6, false, true⟩
  | 0x92 => ⟨"JAM", .imp, 1, 2, false, false⟩
  | 0x93 => ⟨"SHA", .indY, 2, 6, false, false⟩
  | 0x94 => ⟨"STY", .zpX, 2, 4, false, true⟩
  | 0x95 => ⟨"STA", .zpX, 2, 4, false, true⟩
  | 0x96 => ⟨"STX", .zpY, 2, 4, false, true⟩
  | 0x97 => ⟨"SAX", .zpY, 2, 4, false, false⟩
  | 0x98 => ⟨"TYA", .imp, 1, 2, false, true⟩
  | 0x99 => ⟨"STA", .absY, 3, 5, false, true⟩
  | 0x9A => ⟨"TXS", .imp, 1, 2, false, true⟩
  | 0x9B => ⟨"TAS", .absY, 3, 5, false, false⟩
  | 0x9C => ⟨"SHY", .absX, 3, 5, false, false⟩
  | 0x9D => ⟨"STA", .absX, 3, 5, false, true⟩
  | 0x9E => ⟨"SHX", .absY, 3, 5, false, false⟩
  | 0x9F => ⟨"SHA", .absY, 3, 5, false, false⟩
  | 0xA0 => ⟨"LDY", .imm, 2, 2, false, true⟩
  | 0xA1 => ⟨"LDA", .indX, 2, 6, false, true⟩
  | 0xA2 => ⟨"LDX", .imm, 2, 2, false, true⟩
  | 0xA3 => ⟨"LAX", .indX, 2, 6, false, false⟩
  | 0xA4 => ⟨"LDY", .zp, 2, 3, false, true⟩
  | 0xA5 => ⟨"LDA", .zp, 2, 3, false, true⟩
  | 0xA6 => ⟨"LDX", .zp, 2, 3, false, true⟩
  | 0xA7 => ⟨"LAX", .zp, 2, 3, false, false⟩
  | 0xA8 => ⟨"TAY", .imp, 1, 2, false, true⟩
  | 0xA9 => ⟨"LDA", .imm, 2, 2, false, true⟩
  | 0xAA => ⟨"TAX", .imp, 1, 2, false, true⟩
  | 0xAB => ⟨"LXA", .imm, 2, 2, false, false⟩
  | 0xAC => ⟨"LDY", .abs, 3, 4, false, true⟩
  | 0xAD => ⟨"LDA", .abs, 3, 4, false, true⟩
  | 0xAE => ⟨"LDX", .abs, 3, 4, false, true⟩
  | 0xAF => ⟨"LAX", .abs, 3, 4, false, false⟩
  | 0xB0 => ⟨"BCS", .rel, 2, 2, false, true⟩
  | 0xB1 => ⟨"LDA", .indY, 2, 5, true, true⟩
  | 0xB2 => ⟨"JAM", .imp, 1, 2, false, false⟩
  | 0xB3 => ⟨"LAX", .indY, 2, 5, true, false⟩
  | 0xB4 => ⟨"LDY", .zpX, 2, 4, false, true⟩
  | 0xB5 => ⟨"LDA", .zpX, 2, 4, false, true⟩
  | 0xB6 => ⟨"LDX", .zpY, 2, 4, false, true⟩
  | 0xB7 => ⟨"LAX", .zpY, 2, 4, false, false⟩
  | 0xB8 => ⟨"CLV", .imp, 1, 2, false, true⟩
  | 0xB9 => ⟨"LDA", .absY, 3, 4, true, true⟩
  | 0xBA => ⟨"TSX", .imp, 1, 2, false, true⟩
  | 0xBB => ⟨"LAS", .absY, 3, 4, true, false⟩
  | 0xBC => ⟨"LDY", .absX, 3, 4, true, true⟩
  | 0xBD => ⟨"LDA", .absX, 3, 4, true, true⟩
  | 0xBE => ⟨"LDX", .absY, 3, 4, true, true⟩
  | 0xBF => ⟨"LAX", .absY, 3, 4, true, false⟩
  | 0xC0 => ⟨"CPY", .imm, 2, 2, false, true⟩
  | 0xC1 => ⟨"CMP", .indX, 2, 6, false, true⟩
  | 0xC2 => ⟨"NOP", .imm, 2, 2, false, false⟩
  | 0xC3 => ⟨"DCP", .indX, 2, 8, false, false⟩
  | 0xC4 => ⟨"CPY", .zp, 2, 3, false, true⟩
  | 0xC5 => ⟨"CMP", .zp, 2, 3, false, true⟩
  | 0xC6 => ⟨"DEC", .zp, 2, 5, false, true⟩
  | 0xC7 => ⟨"DCP", .zp, 2, 5, false, false⟩
  | 0xC8 => ⟨"INY", .imp, 1, 2, false, true⟩
  | 0xC9 => ⟨"CMP", .imm, 2, 2, false, true⟩
  | 0xCA => ⟨"DEX", .imp, 1, 2, false, true⟩
  | 0xCB => ⟨"SBX", .imm, 2, 2, false, false⟩
  | 0xCC => ⟨"CPY", .abs, 3, 4, false, true⟩
  | 0xCD => ⟨"CMP", .abs, 3, 4, false, true⟩
  | 0xCE => ⟨"DEC", .abs, 3, 6, false, true⟩
  | 0xCF => ⟨"DCP", .abs, 3, 6, false, false⟩
  | 0xD0 => ⟨"BNE", .rel, 2, 2, false, true⟩
  | 0xD1 => ⟨"CMP", .indY, 2, 5, true, true⟩
  | 0xD2 => ⟨"JAM", .imp, 1, 2, false, false⟩
  | 0xD3 => ⟨"DCP", .indY, 2, 8, false, false⟩
  | 0xD4 => ⟨"NOP", .zpX, 2, 4, false, false⟩
  | 0xD5 => ⟨"CMP", .zpX, 2, 4, false, true⟩
  | 0xD6 => ⟨"DEC", .zpX, 2, 6, false, true⟩
  | 0xD7 => ⟨"DCP", .zpX, 2, 6, false, false⟩
  | 0xD8 => ⟨"CLD", .imp, 1, 2, false, true⟩
  | 0xD9 => ⟨"CMP", .absY, 3, 4, true, true⟩
  | 0xDA => ⟨"NOP", .imp, 1, 2, false, false⟩
  | 0xDB => ⟨"DCP", .absY, 3, 7, false, false⟩
  | 0xDC => ⟨"NOP", .absX, 3, 4, true, false⟩
  | 0xDD => ⟨"CMP", .absX, 3, 4, true, true⟩
  | 0xDE => ⟨"DEC", .absX, 3, 7, false, true⟩
  | 0xDF => ⟨"DCP", .absX, 3, 7, false, false⟩
  | 0xE0 => ⟨"CPX", .imm, 2, 2, false, true⟩
  | 0xE1 => ⟨"SBC", .indX, 2, 6, false, true⟩
  | 0xE2 => ⟨"NOP", .imm, 2, 2, false, false⟩
  | 0xE3 => ⟨"ISC", .indX, 2, 8, false, false⟩
  | 0xE4 => ⟨"CPX", .zp, 2, 3, false, true⟩
  | 0xE5 => ⟨"SBC", .zp, 2, 3, false, true⟩
  | 0xE6 => ⟨"INC", .zp, 2, 5, false, true⟩
  | 0xE7 => ⟨"ISC", .zp, 2, 5, false, false⟩
  | 0xE8 => ⟨"INX", .imp, 1, 2, false, true⟩
  | 0xE9 => ⟨"SBC", .imm, 2, 2, false, true⟩
  | 0xEA => ⟨"NOP", .imp, 1, 2, false, true⟩
  | 0xEB => ⟨"SBC", .imm, 2, 2, false, false⟩
  | 0xEC => ⟨"CPX", .abs, 3, 4, false, true⟩
  | 0xED => ⟨"SBC", .abs, 3, 4, false, true⟩
  | 0xEE => ⟨"INC", .abs, 3, 6, false, true⟩
  | 0xEF => ⟨"ISC", .abs, 3, 6, false, false⟩
  | 0xF0 => ⟨"BEQ", .rel, 2, 2, false, true⟩
  | 0xF1 => ⟨"SBC", .indY, 2, 5, true, true⟩
  | 0xF2 => ⟨"JAM", .imp, 1, 2, false, false⟩
  | 0xF3 => ⟨"ISC", .indY, 2, 8, false, false⟩
  | 0xF4 => ⟨"NOP", .zpX, 2, 4, false, false⟩
  | 0xF5 => ⟨"SBC", .zpX, 2, 4, false, true⟩
  | 0xF6 => ⟨"INC", .zpX, 2, 6, false, true⟩
  | 0xF7 => ⟨"ISC", .zpX, 2, 6, false, false⟩
  | 0xF8 => ⟨"SED", .imp, 1, 2, false, true⟩
  | 0xF9 => ⟨"SBC", .absY, 3, 4, true, true⟩
  | 0xFA => ⟨"NOP", .imp, 1, 2, false, false⟩
  | 0xFB => ⟨"ISC", .absY, 3, 7, false, false⟩
  | 0xFC => ⟨"NOP", .absX, 3, 4, true, false⟩
  | 0xFD => ⟨"SBC", .absX, 3, 4, true, true⟩
  | 0xFE => ⟨"INC", .absX, 3, 7, false, true⟩
  | _ => ⟨"ISC", .absX, 3, 7, false, false⟩

/-- How many operand bytes follow an opcode: "looks up its row ... and fetches `length - 1` operand
bytes" (R93). -/
def operandCount (op : Byte) : Nat := (descriptor op).length - 1

/-- Why a list of bytes is not an instruction. No opcode byte is refused (R98); a list can end too soon. -/
inductive DecodeError
  /-- the list is empty -/
  | noOpcode
  /-- the list ends before the operand bytes of this opcode -/
  | truncated (op : Byte)
  deriving DecidableEq, Repr

/-- The first instruction of a list of bytes, lowest address first, and the bytes after it. -/
def decode : List Byte → Except DecodeError (Instr × List Byte)
  | [] => .error .noOpcode
  | op :: rest =>
    match operandCount op, rest with
    | 0, rest => .ok (decodeOpcode op 0 0, rest)
    | 1, b1 :: rest => .ok (decodeOpcode op b1 0, rest)
    | 2, b1 :: b2 :: rest => .ok (decodeOpcode op b1 b2, rest)
    | _, _ => .error (.truncated op)

/-- The instruction the decoder reads from an instruction whose bits are `w`, bit 0 the least
significant bit of the first byte; bits from `nbits` up are 0. -/
def decodeTableWord (nbits w : Nat) : Option Instr :=
  if nbits < 8 then none
  else
    match decode [BitVec.ofNat 8 (w % 2 ^ nbits), BitVec.ofNat 8 (w % 2 ^ nbits / 2 ^ 8),
        BitVec.ofNat 8 (w % 2 ^ nbits / 2 ^ 16)] with
    | .ok r => some r.1
    | .error _ => none

/-- The operand bytes of a memory form (R91): the low byte of an address comes first. -/
def MemOperand.bytes : MemOperand → List Byte
  | .zp a | .zpX a | .zpY a | .indX a | .indY a => [a]
  | .abs w | .absX w | .absY w => [loByte w, hiByte w]

/-- The operand byte or bytes of a read form (R91). -/
def Source.bytes : Source → List Byte
  | .imm b => [b]
  | .mem m => m.bytes

/-- The operand bytes of a place (R91): none for the accumulator. -/
def Place.bytes : Place → List Byte
  | .acc => []
  | .mem m => m.bytes

/-- The opcode byte of an instruction (R96); none where the table has no row for the form. -/
def opcodeOf : Instr → Option Byte
  | .lda (.mem (.indX _)) => some 0xA1
  | .lda (.mem (.zp _)) => some 0xA5
  | .lda (.imm _) => some 0xA9
  | .lda (.mem (.abs _)) => some 0xAD
  | .lda (.mem (.indY _)) => some 0xB1
  | .lda (.mem (.zpX _)) => some 0xB5
  | .lda (.mem (.absY _)) => some 0xB9
  | .lda (.mem (.absX _)) => some 0xBD
  | .lda _ => none
  | .ldx (.imm _) => some 0xA2
  | .ldx (.mem (.zp _)) => some 0xA6
  | .ldx (.mem (.abs _)) => some 0xAE
  | .ldx (.mem (.zpY _)) => some 0xB6
  | .ldx (.mem (.absY _)) => some 0xBE
  | .ldx _ => none
  | .ldy (.imm _) => some 0xA0
  | .ldy (.mem (.zp _)) => some 0xA4
  | .ldy (.mem (.abs _)) => some 0xAC
  | .ldy (.mem (.zpX _)) => some 0xB4
  | .ldy (.mem (.absX _)) => some 0xBC
  | .ldy _ => none
  | .sta (.indX _) => some 0x81
  | .sta (.zp _) => some 0x85
  | .sta (.abs _) => some 0x8D
  | .sta (.indY _) => some 0x91
  | .sta (.zpX _) => some 0x95
  | .sta (.absY _) => some 0x99
  | .sta (.absX _) => some 0x9D
  | .sta _ => none
  | .stx (.zp _) => some 0x86
  | .stx (.abs _) => some 0x8E
  | .stx (.zpY _) => some 0x96
  | .stx _ => none
  | .sty (.zp _) => some 0x84
  | .sty (.abs _) => some 0x8C
  | .sty (.zpX _) => some 0x94
  | .sty _ => none
  | .tax => some 0xAA
  | .tay => some 0xA8
  | .txa => some 0x8A
  | .tya => some 0x98
  | .tsx => some 0xBA
  | .txs => some 0x9A
  | .pha => some 0x48
  | .php => some 0x08
  | .pla => some 0x68
  | .plp => some 0x28
  | .adc (.mem (.indX _)) => some 0x61
  | .adc (.mem (.zp _)) => some 0x65
  | .adc (.imm _) => some 0x69
  | .adc (.mem (.abs _)) => some 0x6D
  | .adc (.mem (.indY _)) => some 0x71
  | .adc (.mem (.zpX _)) => some 0x75
  | .adc (.mem (.absY _)) => some 0x79
  | .adc (.mem (.absX _)) => some 0x7D
  | .adc _ => none
  | .sbc (.mem (.indX _)) => some 0xE1
  | .sbc (.mem (.zp _)) => some 0xE5
  | .sbc (.imm _) => some 0xE9
  | .sbc (.mem (.abs _)) => some 0xED
  | .sbc (.mem (.indY _)) => some 0xF1
  | .sbc (.mem (.zpX _)) => some 0xF5
  | .sbc (.mem (.absY _)) => some 0xF9
  | .sbc (.mem (.absX _)) => some 0xFD
  | .sbc _ => none
  | .and (.mem (.indX _)) => some 0x21
  | .and (.mem (.zp _)) => some 0x25
  | .and (.imm _) => some 0x29
  | .and (.mem (.abs _)) => some 0x2D
  | .and (.mem (.indY _)) => some 0x31
  | .and (.mem (.zpX _)) => some 0x35
  | .and (.mem (.absY _)) => some 0x39
  | .and (.mem (.absX _)) => some 0x3D
  | .and _ => none
  | .ora (.mem (.indX _)) => some 0x01
  | .ora (.mem (.zp _)) => some 0x05
  | .ora (.imm _) => some 0x09
  | .ora (.mem (.abs _)) => some 0x0D
  | .ora (.mem (.indY _)) => some 0x11
  | .ora (.mem (.zpX _)) => some 0x15
  | .ora (.mem (.absY _)) => some 0x19
  | .ora (.mem (.absX _)) => some 0x1D
  | .ora _ => none
  | .eor (.mem (.indX _)) => some 0x41
  | .eor (.mem (.zp _)) => some 0x45
  | .eor (.imm _) => some 0x49
  | .eor (.mem (.abs _)) => some 0x4D
  | .eor (.mem (.indY _)) => some 0x51
  | .eor (.mem (.zpX _)) => some 0x55
  | .eor (.mem (.absY _)) => some 0x59
  | .eor (.mem (.absX _)) => some 0x5D
  | .eor _ => none
  | .cmp (.mem (.indX _)) => some 0xC1
  | .cmp (.mem (.zp _)) => some 0xC5
  | .cmp (.imm _) => some 0xC9
  | .cmp (.mem (.abs _)) => some 0xCD
  | .cmp (.mem (.indY _)) => some 0xD1
  | .cmp (.mem (.zpX _)) => some 0xD5
  | .cmp (.mem (.absY _)) => some 0xD9
  | .cmp (.mem (.absX _)) => some 0xDD
  | .cmp _ => none
  | .cpx (.imm _) => some 0xE0
  | .cpx (.mem (.zp _)) => some 0xE4
  | .cpx (.mem (.abs _)) => some 0xEC
  | .cpx _ => none
  | .cpy (.imm _) => some 0xC0
  | .cpy (.mem (.zp _)) => some 0xC4
  | .cpy (.mem (.abs _)) => some 0xCC
  | .cpy _ => none
  | .bit (.zp _) => some 0x24
  | .bit (.abs _) => some 0x2C
  | .bit _ => none
  | .inc (.zp _) => some 0xE6
  | .inc (.abs _) => some 0xEE
  | .inc (.zpX _) => some 0xF6
  | .inc (.absX _) => some 0xFE
  | .inc _ => none
  | .dec (.zp _) => some 0xC6
  | .dec (.abs _) => some 0xCE
  | .dec (.zpX _) => some 0xD6
  | .dec (.absX _) => some 0xDE
  | .dec _ => none
  | .inx => some 0xE8
  | .iny => some 0xC8
  | .dex => some 0xCA
  | .dey => some 0x88
  | .asl (.mem (.zp _)) => some 0x06
  | .asl .acc => some 0x0A
  | .asl (.mem (.abs _)) => some 0x0E
  | .asl (.mem (.zpX _)) => some 0x16
  | .asl (.mem (.absX _)) => some 0x1E
  | .asl _ => none
  | .lsr (.mem (.zp _)) => some 0x46
  | .lsr .acc => some 0x4A
  | .lsr (.mem (.abs _)) => some 0x4E
  | .lsr (.mem (.zpX _)) => some 0x56
  | .lsr (.mem (.absX _)) => some 0x5E
  | .lsr _ => none
  | .rol (.mem (.zp _)) => some 0x26
  | .rol .acc => some 0x2A
  | .rol (.mem (.abs _)) => some 0x2E
  | .rol (.mem (.zpX _)) => some 0x36
  | .rol (.mem (.absX _)) => some 0x3E
  | .rol _ => none
  | .ror (.mem (.zp _)) => some 0x66
  | .ror .acc => some 0x6A
  | .ror (.mem (.abs _)) => some 0x6E
  | .ror (.mem (.zpX _)) => some 0x76
  | .ror (.mem (.absX _)) => some 0x7E
  | .ror _ => none
  | .jmpAbs _ => some 0x4C
  | .jmpInd _ => some 0x6C
  | .jsr _ => some 0x20
  | .rts => some 0x60
  | .bcc _ => some 0x90
  | .bcs _ => some 0xB0
  | .beq _ => some 0xF0
  | .bne _ => some 0xD0
  | .bmi _ => some 0x30
  | .bpl _ => some 0x10
  | .bvc _ => some 0x50
  | .bvs _ => some 0x70
  | .brk _ => some 0x00
  | .rti => some 0x40
  | .clc => some 0x18
  | .sec => some 0x38
  | .cli => some 0x58
  | .sei => some 0x78
  | .cld => some 0xD8
  | .sed => some 0xF8
  | .clv => some 0xB8
  | .nop => some 0xEA
  | .jam .r0 => some 0x02
  | .jam .r1 => some 0x12
  | .jam .r2 => some 0x22
  | .jam .r3 => some 0x32
  | .jam .r4 => some 0x42
  | .jam .r5 => some 0x52
  | .jam .r6 => some 0x62
  | .jam .r7 => some 0x72
  | .jam .r9 => some 0x92
  | .jam .rB => some 0xB2
  | .jam .rD => some 0xD2
  | .jam .rF => some 0xF2
  | .nopImplied .r1 => some 0x1A
  | .nopImplied .r3 => some 0x3A
  | .nopImplied .r5 => some 0x5A
  | .nopImplied .r7 => some 0x7A
  | .nopImplied .rD => some 0xDA
  | .nopImplied .rF => some 0xFA
  | .nopImm .o80 _ => some 0x80
  | .nopImm .o82 _ => some 0x82
  | .nopImm .o89 _ => some 0x89
  | .nopImm .oC2 _ => some 0xC2
  | .nopImm .oE2 _ => some 0xE2
  | .nopZp .r0 _ => some 0x04
  | .nopZp .r4 _ => some 0x44
  | .nopZp .r6 _ => some 0x64
  | .nopZpX .r1 _ => some 0x14
  | .nopZpX .r3 _ => some 0x34
  | .nopZpX .r5 _ => some 0x54
  | .nopZpX .r7 _ => some 0x74
  | .nopZpX .rD _ => some 0xD4
  | .nopZpX .rF _ => some 0xF4
  | .nopAbs _ => some 0x0C
  | .nopAbsX .r1 _ => some 0x1C
  | .nopAbsX .r3 _ => some 0x3C
  | .nopAbsX .r5 _ => some 0x5C
  | .nopAbsX .r7 _ => some 0x7C
  | .nopAbsX .rD _ => some 0xDC
  | .nopAbsX .rF _ => some 0xFC
  | .slo (.indX _) => some 0x03
  | .slo (.zp _) => some 0x07
  | .slo (.abs _) => some 0x0F
  | .slo (.indY _) => some 0x13
  | .slo (.zpX _) => some 0x17
  | .slo (.absY _) => some 0x1B
  | .slo (.absX _) => some 0x1F
  | .slo _ => none
  | .rla (.indX _) => some 0x23
  | .rla (.zp _) => some 0x27
  | .rla (.abs _) => some 0x2F
  | .rla (.indY _) => some 0x33
  | .rla (.zpX _) => some 0x37
  | .rla (.absY _) => some 0x3B
  | .rla (.absX _) => some 0x3F
  | .rla _ => none
  | .sre (.indX _) => some 0x43
  | .sre (.zp _) => some 0x47
  | .sre (.abs _) => some 0x4F
  | .sre (.indY _) => some 0x53
  | .sre (.zpX _) => some 0x57
  | .sre (.absY _) => some 0x5B
  | .sre (.absX _) => some 0x5F
  | .sre _ => none
  | .rra (.indX _) => some 0x63
  | .rra (.zp _) => some 0x67
  | .rra (.abs _) => some 0x6F
  | .rra (.indY _) => some 0x73
  | .rra (.zpX _) => some 0x77
  | .rra (.absY _) => some 0x7B
  | .rra (.absX _) => some 0x7F
  | .rra _ => none
  | .sax (.indX _) => some 0x83
  | .sax (.zp _) => some 0x87
  | .sax (.abs _) => some 0x8F
  | .sax (.zpY _) => some 0x97
  | .sax _ => none
  | .lax (.indX _) => some 0xA3
  | .lax (.zp _) => some 0xA7
  | .lax (.abs _) => some 0xAF
  | .lax (.indY _) => some 0xB3
  | .lax (.zpY _) => some 0xB7
  | .lax (.absY _) => some 0xBF
  | .lax _ => none
  | .dcp (.indX _) => some 0xC3
  | .dcp (.zp _) => some 0xC7
  | .dcp (.abs _) => some 0xCF
  | .dcp (.indY _) => some 0xD3
  | .dcp (.zpX _) => some 0xD7
  | .dcp (.absY _) => some 0xDB
  | .dcp (.absX _) => some 0xDF
  | .dcp _ => none
  | .isc (.indX _) => some 0xE3
  | .isc (.zp _) => some 0xE7
  | .isc (.abs _) => some 0xEF
  | .isc (.indY _) => some 0xF3
  | .isc (.zpX _) => some 0xF7
  | .isc (.absY _) => some 0xFB
  | .isc (.absX _) => some 0xFF
  | .isc _ => none
  | .anc .r0 _ => some 0x0B
  | .anc .r2 _ => some 0x2B
  | .alr _ => some 0x4B
  | .arr _ => some 0x6B
  | .ane _ => some 0x8B
  | .lxa _ => some 0xAB
  | .sbx _ => some 0xCB
  | .sbcEB _ => some 0xEB
  | .sha (.indY _) => some 0x93
  | .sha (.absY _) => some 0x9F
  | .shx _ => some 0x9E
  | .shy _ => some 0x9C
  | .tas _ => some 0x9B
  | .las _ => some 0xBB

/-- The operand bytes of an instruction, in address order (R91). -/
def operandBytes : Instr → List Byte
  | .lda o | .ldx o | .ldy o | .adc o | .sbc o | .and o | .ora o | .eor o | .cmp o | .cpx o | .cpy o => o.bytes
  | .sta m | .stx m | .sty m | .bit m | .inc m | .dec m | .slo m | .rla m | .sre m | .rra m | .sax m | .lax m
  | .dcp m | .isc m => m.bytes
  | .asl p | .lsr p | .rol p | .ror p => p.bytes
  | .sha (.indY z) => [z]
  | .jmpAbs w | .jmpInd w | .jsr w | .nopAbs w | .nopAbsX _ w | .sha (.absY w) | .shx w | .shy w | .tas w
  | .las w => [loByte w, hiByte w]
  | .bcc b | .bcs b | .beq b | .bne b | .bmi b | .bpl b | .bvc b | .bvs b | .brk b | .nopImm _ b | .nopZp _ b
  | .nopZpX _ b | .anc _ b | .alr b | .arr b | .ane b | .lxa b | .sbx b | .sbcEB b => [b]
  | .tax | .tay | .txa | .tya | .tsx | .txs | .pha | .php | .pla | .plp | .inx | .iny | .dex | .dey | .rts
  | .rti | .clc | .sec | .cli | .sei | .cld | .sed | .clv | .nop | .jam _ | .nopImplied _ => []

/-- The bytes of a well-formed instruction, lowest address first; empty for a term that is no row of the
opcode table. -/
def encode (i : Instr) : List Byte :=
  match opcodeOf i with
  | some op => op :: operandBytes i
  | none => []

/-- The length of an instruction in bytes (R90). -/
def Instr.length (i : Instr) : Nat := (encode i).length

end Sys2Proof
end

