-- ==== Sys2Proof/Config.lean ====
section
/-! DEFINITION. The parameters of 00_scope.md R7 and the two free values. Parameters that are the
cartridge (`PRG`, `CHR`, `MIRRORING`, `MAPPER_ID`) and the RAM contents at power-on (`RAM_INIT`) are
arguments of `Machine.powerOn`. -/

namespace Sys2Proof.Config

/-- FREE VALUE. `ANE_MAGIC`, the OPEN constant of opcode $8B (R7, R306; 92_eei_decisions.md D16). No
proof can see it: notes/assumptions/5.md. -/
opaque aneMagic : Byte

/-- FREE VALUE. `LXA_MAGIC`, the OPEN constant of opcode $AB (R7, R307; D16): notes/assumptions/5.md. -/
opaque lxaMagic : Byte

/-- `OPEN_BUS_INIT` (R7, D10). -/
def openBusInit : Byte := 0x00

/-- `JAM_IDLE_CYCLES` (R7, D18). -/
def jamIdleCycles : Nat := 1

/-- The identifier of the baseline mapper, the only one accepted (R67, D21). -/
def baselineMapperId : Nat := 0

/-- The bytes of internal RAM (R6, R39). -/
def ramBytes : Nat := 2048

/-- What an address of RAM or ROM that a memory list does not list reads as. DESIGN CHOICE, unsafe:
notes/assumptions/1.md. -/
def unlistedByte : Byte := 0x00

end Sys2Proof.Config
end

