-- ==== Sys2Proof/Machine/State.lean ====
section
/-! DEFINITION. All the state of the machine (10_state.md R20 to R43), as plain data, its setters, and
its value after reset (R44). -/

namespace Sys2Proof.Machine

/-- The six status flags (R20, R26). There is no B and no bit 5 in the live state (R27). -/
@[ext]
structure Flags where
  /-- Carry (R29) -/
  c : Bool
  /-- Zero (R30) -/
  z : Bool
  /-- Interrupt-Disable (R31) -/
  i : Bool
  /-- Decimal, inert (R32) -/
  d : Bool
  /-- Overflow (R33) -/
  v : Bool
  /-- Negative (R34) -/
  n : Bool
  deriving DecidableEq, Repr

/-- The bytes of a memory that differ from what an unlisted address reads as, addresses rising. -/
abbrev Memory := List Host.Cell

/-- The two sizes a PRG image may have (R40, R67). -/
inductive PrgSize
  /-- 16384 bytes -/
  | k16
  /-- 32768 bytes -/
  | k32
  deriving DecidableEq, Repr

/-- What the baseline mapper holds (R40): no bank-selection state. -/
@[ext]
structure Cartridge where
  prgSize   : PrgSize
  /-- the PRG image, by offset -/
  prg       : Memory
  /-- the CHR image, "stored, never read by this core" -/
  chr       : List Byte
  /-- "stored, uninterpreted" -/
  mirroring : Nat
  /-- "stored, uninterpreted" -/
  mapperId  : Nat
  deriving DecidableEq, Repr

/-- The machine (R20 to R43). "Nothing else is state" (R43). -/
@[ext]
structure State where
  /-- accumulator (R21) -/
  a           : Byte
  /-- index X (R22) -/
  x           : Byte
  /-- index Y (R23) -/
  y           : Byte
  /-- stack pointer S, an offset into page 1 (R24) -/
  sp          : Byte
  /-- program counter (R25) -/
  pc          : Word
  /-- the status flags (R26) -/
  flags       : Flags
  /-- an NMI edge is latched and not yet serviced (R36) -/
  nmiPending  : Bool
  /-- the level of the IRQ input (R36) -/
  irqLine     : Bool
  /-- the value of I the next IRQ check uses (R36, R345) -/
  irqPollMask : Bool
  /-- a JAM opcode has run (R37) -/
  jammed      : Bool
  /-- the last byte driven on the bus (R38) -/
  openBus     : Byte
  /-- the 2 KiB of internal RAM (R39) -/
  ram         : Memory
  /-- the cartridge (R40) -/
  cart        : Cartridge
  /-- the stepper's cycle count (R42) -/
  cycles      : Nat
  deriving DecidableEq, Repr

/-- No fault exists on this hardware: "the hardware raises no synchronous exception" (R340), no address
faults (R51), and the jammed state is a state, not a stop (R291). notes/assumptions/20.md. -/
inductive Fault
  deriving DecidableEq, Repr

/-- Why there is no next state. A step never answers one: every opcode has its meaning. -/
inductive Refusal
  /-- Raised by an arm of `exec` whose instruction has no meaning yet (none). Safe. -/
  | notModelled (mnemonic : String)
  /-- Raised by `powerOn`: the PRG image is neither 16 nor 32 KiB (R67, D22); no machine exists. Safe. -/
  | prgSizeUnsupported
  /-- Raised by `powerOn`: the mapper identifier is not the baseline's (R67, D21). Safe. -/
  | mapperUnsupported
  deriving DecidableEq, Repr

/-- What a meaning, a step or a host operation answers. -/
abbrev Outcome := Host.Outcome State Fault Refusal

namespace State

/-- Write A. -/
def setA (v : Byte) (s : State) : State := { s with a := v }
/-- Write X. -/
def setX (v : Byte) (s : State) : State := { s with x := v }
/-- Write Y. -/
def setY (v : Byte) (s : State) : State := { s with y := v }
/-- Write S. -/
def setSp (v : Byte) (s : State) : State := { s with sp := v }
/-- Write PC. -/
def setPc (v : Word) (s : State) : State := { s with pc := v }
/-- Write the six flags. -/
def setFlags (v : Flags) (s : State) : State := { s with flags := v }
/-- Write the NMI latch. -/
def setNmiPending (v : Bool) (s : State) : State := { s with nmiPending := v }
/-- Write the IRQ level. -/
def setIrqLine (v : Bool) (s : State) : State := { s with irqLine := v }
/-- Write the mask of the next IRQ check. -/
def setIrqPollMask (v : Bool) (s : State) : State := { s with irqPollMask := v }
/-- Write `jammed`. -/
def setJammed (v : Bool) (s : State) : State := { s with jammed := v }
/-- Write the open-bus latch. -/
def setOpenBus (v : Byte) (s : State) : State := { s with openBus := v }
/-- Replace the RAM. -/
def setRam (v : Memory) (s : State) : State := { s with ram := v }
/-- Replace the cartridge. -/
def setCart (v : Cartridge) (s : State) : State := { s with cart := v }
/-- Count `k` more cycles (R42). -/
def tick (k : Nat) (s : State) : State := { s with cycles := s.cycles + k }

end State

/-- The cartridge of `State.reset`: 32 KiB of PRG with nothing listed, no CHR. DESIGN CHOICE, unsafe:
notes/assumptions/2.md. -/
def Cartridge.blank : Cartridge :=
  { prgSize := .k32, prg := [], chr := [], mirroring := 0, mapperId := Config.baselineMapperId }

/-- The machine right after power-on and reset (R44, R381, R382) with the blank cartridge and a RAM that
lists nothing. PC and the latch are what the vector read of R381 gives on that cartridge. -/
def State.reset : State :=
  { a := 0x00, x := 0x00, y := 0x00, sp := 0xFD, pc := 0x0000
    flags := { c := false, z := false, i := true, d := false, v := false, n := false }
    nmiPending := false, irqLine := false, irqPollMask := true, jammed := false
    openBus := 0x00, ram := [], cart := Cartridge.blank, cycles := 0 }

end Sys2Proof.Machine
end

