-- ==== Sys2Proof/Machine/Flags.lean ====
section
/-! DEFINITION. The status byte (10_state.md R26 to R28), the arithmetic of the ALU and every flag rule
(R138, 43_arith_logic.md R190, R191, 44_shift_rotate.md, 46_undocumented.md R303 to R308), as functions
of bytes and flags. -/

namespace Sys2Proof.Machine

/-- A byte with the one bit `k` set where `b` holds. -/
def bitAt (b : Bool) (k : Nat) : Byte := if b then 1 <<< k else 0

/-- `PackP(b)` (R27): the status byte as it is pushed, bit 5 always 1, bit 4 the Break indication. -/
def packP (b : Bool) (f : Flags) : Byte :=
  bitAt f.n 7 ||| bitAt f.v 6 ||| bitAt true 5 ||| bitAt b 4 ||| bitAt f.d 3 ||| bitAt f.i 2 ||| bitAt f.z 1
    ||| bitAt f.c 0

/-- `UnpackP(v)` (R28): bits 4 and 5 are discarded. -/
def unpackP (v : Byte) : Flags :=
  { c := v.getLsbD 0, z := v.getLsbD 1, i := v.getLsbD 2, d := v.getLsbD 3, v := v.getLsbD 6, n := v.getLsbD 7 }

/-- `SetNZ(v)` (R138): `Z <- (v = 0); N <- v[7]`. -/
def Flags.setNZ (v : Byte) (f : Flags) : Flags := { f with z := v == 0, n := v.getLsbD 7 }

/-- A result byte with the carry and the signed overflow it leaves. -/
structure Sum where
  value    : Byte
  carry    : Bool
  overflow : Bool
  deriving DecidableEq, Repr

/-- `AddWithCarry(a, m, c)` (R190): the sum over the naturals, then narrowed. D is not read. -/
def addWithCarry (a m : Byte) (c : Bool) : Sum :=
  let s := a.toNat + m.toNat + c.toNat
  let r := BitVec.ofNat 8 s
  { value := r, carry := decide (256 ≤ s), overflow := ((a ^^^ r) &&& (m ^^^ r)).getLsbD 7 }

/-- The flags an addition leaves: C and V of the sum, Z and N of its value (R192, R193). -/
def Flags.setSum (r : Sum) (f : Flags) : Flags := { f.setNZ r.value with c := r.carry, v := r.overflow }

/-- `Compare(reg, m)` (R191): V is not written. -/
def Flags.setCompare (reg m : Byte) (f : Flags) : Flags :=
  { f with c := decide (m.toNat ≤ reg.toNat), z := reg == m, n := (reg - m).getLsbD 7 }

/-- BIT's flags (R200): Z of `A & M`, N and V from the operand. -/
def Flags.setBit (a m : Byte) (f : Flags) : Flags :=
  { f with z := a &&& m == 0, n := m.getLsbD 7, v := m.getLsbD 6 }

/-- ARR's flags for its result (R305): `C <- A[6]; V <- A[6] ^ A[5]`, with Z and N of it. -/
def Flags.setArr (r : Byte) (f : Flags) : Flags :=
  { f.setNZ r with c := r.getLsbD 6, v := r.getLsbD 6 ^^ r.getLsbD 5 }

/-- A result byte with the bit shifted out of it. -/
structure Shifted where
  value : Byte
  carry : Bool
  deriving DecidableEq, Repr

/-- ASL (R230). -/
def shiftLeft (v : Byte) : Shifted := { value := v <<< 1, carry := v.getLsbD 7 }

/-- LSR (R231). -/
def shiftRight (v : Byte) : Shifted := { value := v >>> 1, carry := v.getLsbD 0 }

/-- ROL (R232), with the carry before it. -/
def rotateLeft (c : Bool) (v : Byte) : Shifted := { value := v <<< 1 ||| bitAt c 0, carry := v.getLsbD 7 }

/-- ROR (R233), with the carry before it. -/
def rotateRight (c : Bool) (v : Byte) : Shifted := { value := v >>> 1 ||| bitAt c 7, carry := v.getLsbD 0 }

/-- The flags a shift or rotate leaves: C the bit shifted out, Z and N of the value (R230 to R233). -/
def Flags.setShifted (r : Shifted) (f : Flags) : Flags := { f.setNZ r.value with c := r.carry }

/-- `SetNZ(v)` on the machine (R138). -/
def State.setNZ (v : Byte) (s : State) : State := s.setFlags (s.flags.setNZ v)

end Sys2Proof.Machine
end

