-- ==== Sys2Proof/Machine/Ops.lean ====
section
/-! DEFINITION. The named operations over memory, bus, stack and instruction fetch (20_memory.md,
40_addressing.md R120), and taking an interrupt and returning from one (60_exceptions.md R346,
45_control.md R262, R263). -/

namespace Sys2Proof.Machine

/-! ### Lists of memory cells -/

/-- One byte of a memory; an address not listed reads as `Config.unlistedByte`. -/
def Memory.read : Memory → Nat → Byte
  | [], _ => Config.unlistedByte
  | (k, v) :: m, a => if k = a then v else Memory.read m a

/-- Store one byte, keeping the addresses rising and no entry equal to the unlisted byte. -/
def Memory.write : Memory → Nat → Byte → Memory
  | [], a, v => if v = Config.unlistedByte then [] else [(a, v)]
  | (k, u) :: m, a, v =>
    if a < k then if v = Config.unlistedByte then (k, u) :: m else (a, v) :: (k, u) :: m
    else if a = k then if v = Config.unlistedByte then m else (k, v) :: m
    else (k, u) :: Memory.write m a v

/-- The memory of a list of bytes, the first at address `k`. -/
def Memory.ofBytesFrom : Nat → List Byte → Memory
  | _, [] => []
  | k, b :: bs => if b = Config.unlistedByte then Memory.ofBytesFrom (k + 1) bs else (k, b) :: Memory.ofBytesFrom (k + 1) bs

/-- The canonical form: addresses rising, no entry that reads as an unlisted one. -/
def Memory.wf : Memory → Bool
  | [] => true
  | (k, v) :: m => v != Config.unlistedByte && m.all (fun c => decide (k < c.1)) && Memory.wf m

/-- Every listed address is below `n`. -/
def Memory.within (n : Nat) (m : Memory) : Bool := m.all fun c => decide (c.1 < n)

/-! ### The bus and its owners -/

/-- `PRG_SIZE` (R64). -/
def PrgSize.bytes : PrgSize → Nat
  | .k16 => 16384
  | .k32 => 32768

/-- Which unit an address belongs to, with the index that unit sees (R54). -/
inductive Owner
  /-- internal RAM, index `addr & $07FF` (R55) -/
  | ram (index : Nat)
  /-- the PPU register window, index `addr & $0007` (R59) -/
  | ppu (reg : Nat)
  /-- the APU/IO registers, index `addr - $4000` (R61) -/
  | apuIo (reg : Nat)
  /-- $4018-$401F (R62) -/
  | unused
  /-- the cartridge, which sees the whole address (R63) -/
  | mapper (addr : Nat)
  deriving DecidableEq, Repr

/-- `Decode(addr)` (R54): RAM, then PPU, then APU/IO, then the unused window, then the mapper. -/
def busDecode (addr : Word) : Owner :=
  if addr.toNat < 0x2000 then .ram (addr.toNat % 0x0800)
  else if addr.toNat < 0x4000 then .ppu (addr.toNat % 8)
  else if addr.toNat < 0x4018 then .apuIo (addr.toNat - 0x4000)
  else if addr.toNat < 0x4020 then .unused
  else .mapper addr.toNat

/-- The PPU stub's read (R60): no driver. -/
def ppuRead (_reg : Nat) : Option Byte := none

/-- The APU/IO stub's read (R61): no driver. -/
def apuRead (_reg : Nat) : Option Byte := none

/-- The PPU stub's write (R60): no effect. -/
def ppuWrite (_reg : Nat) (_v : Byte) (s : State) : State := s

/-- The APU/IO stub's write (R61): no effect. -/
def apuWrite (_reg : Nat) (_v : Byte) (s : State) : State := s

/-- Where a cartridge address lies in the PRG image (R64); `none` below $8000, where nothing drives. -/
def prgOffset (c : Cartridge) (addr : Nat) : Option Nat :=
  if 0x8000 ≤ addr then some ((addr - 0x8000) % c.prgSize.bytes) else none

/-- The baseline mapper's read (R63, R64). -/
def mapperRead (c : Cartridge) (addr : Nat) : Option Byte := (prgOffset c addr).map c.prg.read

/-- The baseline mapper's write (R65): no effect on the cartridge. -/
def mapperWrite (c : Cartridge) (_addr : Nat) (_v : Byte) : Cartridge := c

/-- `owner.read(addr)` (R52): `none` where nothing drives the bus. -/
def ownerRead (addr : Word) (s : State) : Option Byte :=
  match busDecode addr with
  | .ram i => some (s.ram.read i)
  | .ppu r => ppuRead r
  | .apuIo r => apuRead r
  | .unused => none
  | .mapper w => mapperRead s.cart w

/-- `owner.write(addr, v)` (R53): always delivered. -/
def ownerWrite (addr : Word) (v : Byte) (s : State) : State :=
  match busDecode addr with
  | .ram i => s.setRam (s.ram.write i v)
  | .ppu r => ppuWrite r v s
  | .apuIo r => apuWrite r v s
  | .unused => s
  | .mapper w => s.setCart (mapperWrite s.cart w v)

/-- The byte a read of `addr` returns (R52, R56): the owner's, or the open-bus latch. -/
def busValue (addr : Word) (s : State) : Byte := (ownerRead addr s).getD s.openBus

/-- `MemRead(addr, 1)` (R52). -/
def memRead (addr : Word) (s : State) : Byte × State := (busValue addr s, s.setOpenBus (busValue addr s))

/-- `MemWrite(addr, 1, v)` (R53). -/
def memWrite (addr : Word) (v : Byte) (s : State) : State := (ownerWrite addr v s).setOpenBus v

/-! ### The stack -/

/-- The address S designates, `cat($01, S)` (R24). -/
def stackAddr (sp : Byte) : Word := cat 0x01 sp

/-- `Push(v)` (R70): store, then decrement. -/
def push (v : Byte) (s : State) : State := (memWrite (stackAddr s.sp) v s).setSp (s.sp - 1)

/-- `Pull()` (R71): increment, then load. -/
def pull (s : State) : Byte × State := memRead (stackAddr (s.sp + 1)) (s.setSp (s.sp + 1))

/-- Push a 16-bit value, high byte first (R73). -/
def pushWord (w : Word) (s : State) : State := push (loByte w) (push (hiByte w) s)

/-- Pull a 16-bit value, low byte first (R252, R263). -/
def pullWord (s : State) : Word × State :=
  let l := pull s
  let h := pull l.2
  (cat h.1 l.1, h.2)

/-- `Read16(a)` (R69): low byte first, at `a` and `a + 1`. -/
def readWord (addr : Word) (s : State) : Word × State :=
  let l := memRead addr s
  let h := memRead (addr + 1) l.2
  (cat h.1 l.1, h.2)

/-! ### Fetch -/

/-- `Fetch()` (R120): read the byte at PC, advance PC modulo 65536. -/
def fetch (s : State) : Byte × State :=
  let r := memRead s.pc s
  (r.1, r.2.setPc (r.2.pc + 1))

/-- Fetch the opcode and its operand bytes (R93, R120), and decode them. JSR stops before its high operand
byte, which it reads after its pushes (R251): that byte is only looked at here, without a bus access,
so that the decoded target is the one the bytes in memory name. -/
def fetchInstr (s : State) : Instr × State :=
  let o := fetch s
  match operandCount o.1 with
  | 0 => (decodeOpcode o.1 0 0, o.2)
  | 1 =>
    let p := fetch o.2
    (decodeOpcode o.1 p.1 0, p.2)
  | _ =>
    let p := fetch o.2
    if o.1 = 0x20 then (decodeOpcode o.1 p.1 (busValue p.2.pc p.2), p.2)
    else
      let q := fetch p.2
      (decodeOpcode o.1 p.1 q.1, q.2)

/-! ### Interrupts -/

/-- The NMI vector (R347). -/
def nmiVector : Word := 0xFFFA

/-- The Reset vector (R380). -/
def resetVector : Word := 0xFFFC

/-- The vector IRQ and BRK share (R348). -/
def irqVector : Word := 0xFFFE

/-- S after every reset (R44, R381; D29). -/
def resetSp : Byte := 0xFD

/-- Taking an interrupt, shared by NMI and IRQ entry (R346) and BRK (R262): push PC, push the status with
the Break bit `b`, set I, load PC from the vector. -/
def takeInterrupt (vector : Word) (b : Bool) (s : State) : State :=
  let s1 := push (packP b s.flags) (pushWord s.pc s)
  let s2 := s1.setFlags { s1.flags with i := true }
  let r := readWord vector s2
  r.2.setPc r.1

/-- `Entry(vector)` (R346), which takes 7 cycles (R396). -/
def hardwareEntry (vector : Word) (s : State) : State :=
  ((takeInterrupt vector false s).setIrqPollMask true).tick 7

/-- The step that takes a pending NMI (R341, R343). -/
def nmiEntry (s : State) : State := hardwareEntry nmiVector (s.setNmiPending false)

/-- The step that takes an IRQ (R341, R344): the line keeps its level. -/
def irqEntry (s : State) : State := hardwareEntry irqVector s

/-- Return from interrupt (R263, R351): pull the status, then PC. -/
def returnFromInterrupt (s : State) : State :=
  let v := pull s
  let r := pullWord (v.2.setFlags (unpackP v.1))
  r.2.setPc r.1

/-- The step of a jammed machine (R291, R353): only the cycle count grows. -/
def jammedStep (s : State) : State := s.tick Config.jamIdleCycles

/-- What `step()` does instead of an instruction (R341, R349, R353): a jammed machine idles, then a latched NMI
goes before an unmasked IRQ. `none`: the step runs an instruction. -/
def boundary (s : State) : Option State :=
  if s.jammed then some (jammedStep s)
  else if s.nmiPending then some (nmiEntry s)
  else if s.irqLine && !s.irqPollMask then some (irqEntry s)
  else none

/-- CLI, SEI and PLP: a change of I acts on the IRQ check one instruction later (R345). -/
def delaysPoll : Instr → Bool
  | .cli | .sei | .plp => true
  | _ => false

/-- The end of an instruction step (R341, R345): the mask of the next IRQ check, from I before and after. -/
def retire (i : Instr) (before after : State) : State :=
  after.setIrqPollMask (if delaysPoll i then before.flags.i else after.flags.i)

/-! ### Placing a program -/

/-- The address names a byte of RAM or PRG, which a program can stand in. -/
def holdsProgram (addr : Word) : Bool := decide (addr.toNat < 0x2000) || decide (0x8000 ≤ addr.toNat)

/-- Put a byte where reads of `addr` find it: RAM, or the PRG image as its loader writes it (R67, R384). No
bus access, and not something a program can do. -/
def placeByte (addr : Word) (v : Byte) (s : State) : State :=
  match busDecode addr with
  | .ram i => s.setRam (s.ram.write i v)
  | .ppu _ | .apuIo _ | .unused => s
  | .mapper w =>
    match prgOffset s.cart w with
    | some k => s.setCart { s.cart with prg := s.cart.prg.write k v }
    | none => s

/-- `s` with an instruction's bytes `w` placed where the next step fetches, so that the next step runs it:
not jammed, no interrupt about to be taken, and PC moved to $8000 only where its three bytes would not all
lie in RAM or PRG (notes/assumptions/19.md). -/
def placeInstr (nbits w : Nat) (s : State) : State :=
  let quiet := ((s.setJammed false).setNmiPending false).setIrqLine (s.irqLine && s.irqPollMask)
  let pc := if holdsProgram s.pc && holdsProgram (s.pc + 1) && holdsProgram (s.pc + 2) then s.pc else 0x8000
  let bits := w % 2 ^ nbits
  placeByte (pc + 2) (BitVec.ofNat 8 (bits / 2 ^ 16))
    (placeByte (pc + 1) (BitVec.ofNat 8 (bits / 2 ^ 8)) (placeByte pc (BitVec.ofNat 8 bits) (quiet.setPc pc)))

end Sys2Proof.Machine
end

