-- ==== Sys2Proof/Machine/Operands.lean ====
section
/-! DEFINITION. Every operand form: effective addresses (40_addressing.md R121 to R134), and access by
kind, read, write and read-modify-write (R136, R137), with the cycles of 70_reset_and_hazards.md R396
and R397. Operand bytes have been fetched already. -/

namespace Sys2Proof.Machine

/-- An effective address, the address before indexing, and whether indexing left its page (R134). For a
mode without a page cross the two addresses agree. -/
structure EffAddr where
  addr    : Word
  base    : Word
  crossed : Bool
  deriving DecidableEq, Repr

/-- The effective address `base + index` of an absolute indexed or `(zp),Y` form (R128, R129, R132). -/
def indexed (base : Word) (index : Byte) : EffAddr :=
  { addr := base + zext16 index, base := base, crossed := hiByte (base + zext16 index) != hiByte base }

/-- An effective address with no page cross. -/
def direct (addr : Word) : EffAddr := { addr := addr, base := addr, crossed := false }

/-- A 16-bit pointer in the zero page (R131, R132): its second byte wraps within the page. -/
def zpPointer (p : Byte) (s : State) : Word × State :=
  let l := memRead (zext16 p) s
  let h := memRead (zext16 (p + 1)) l.2
  (cat h.1 l.1, h.2)

/-- The effective address of a memory form (R124 to R129, R131, R132), and the state after its pointer
reads. -/
def effAddr (m : MemOperand) (s : State) : EffAddr × State :=
  match m with
  | .zp a => (direct (zext16 a), s)
  | .zpX a => (direct (zext16 (a + s.x)), s)
  | .zpY a => (direct (zext16 (a + s.y)), s)
  | .abs w => (direct w, s)
  | .absX w => (indexed w s.x, s)
  | .absY w => (indexed w s.y, s)
  | .indX z =>
    let p := zpPointer (z + s.x) s
    (direct p.1, p.2)
  | .indY z =>
    let p := zpPointer z s
    (indexed p.1 s.y, p.2)

/-- The target of `JMP ($nnnn)` (R130): the high byte comes from the same page as the low byte. -/
def jumpPointer (w : Word) (s : State) : Word × State :=
  let l := memRead w s
  let h := memRead (cat (hiByte w) (loByte w + 1)) l.2
  (cat h.1 l.1, h.2)

/-- Base cycles of a read by form (R397). -/
def readCycles : MemOperand → Nat
  | .zp _ => 3
  | .zpX _ | .zpY _ | .abs _ | .absX _ | .absY _ => 4
  | .indX _ => 6
  | .indY _ => 5

/-- Cycles of a store by form (R397). -/
def writeCycles : MemOperand → Nat
  | .zp _ => 3
  | .zpX _ | .zpY _ | .abs _ => 4
  | .absX _ | .absY _ => 5
  | .indX _ | .indY _ => 6

/-- Cycles of a read-modify-write by form (R397). -/
def modifyCycles : MemOperand → Nat
  | .zp _ => 5
  | .zpX _ | .zpY _ | .abs _ => 6
  | .absX _ | .absY _ => 7
  | .indX _ | .indY _ => 8

/-- Read the byte at the effective address (R136 kind R), with the page-cross surcharge (R135). -/
def readMem (m : MemOperand) (s : State) : Byte × State :=
  let e := effAddr m s
  let r := memRead e.1.addr e.2
  (r.1, r.2.tick (readCycles m + e.1.crossed.toNat))

/-- The operand `M` of a read instruction (R136 kind R); an immediate takes 2 cycles and no further read
(R123). -/
def readSource (o : Source) (s : State) : Byte × State :=
  match o with
  | .imm b => (b, s.tick 2)
  | .mem m => readMem m s

/-- Store a byte at the effective address (R136 kind W). -/
def writeMem (m : MemOperand) (v : Byte) (s : State) : State :=
  let e := effAddr m s
  (memWrite e.1.addr v e.2).tick (writeCycles m)

/-- Read-modify-write of memory (R137): read, write back the old value, write `f` of it. Answers the old
value. -/
def modifyMem (m : MemOperand) (f : Byte → Byte) (s : State) : Byte × State :=
  let e := effAddr m s
  let r := memRead e.1.addr e.2
  (r.1, (memWrite e.1.addr (f r.1) (memWrite e.1.addr r.1 r.2)).tick (modifyCycles m))

/-- Read-modify-write of a place (R137): the accumulator takes 2 cycles and no bus access. -/
def modifyPlace (p : Place) (f : Byte → Byte) (s : State) : Byte × State :=
  match p with
  | .acc => (s.a, (s.setA (f s.a)).tick 2)
  | .mem m => modifyMem m f s

/-- The memory form of SHA's operand. -/
def shaForm : ShaOperand → MemOperand
  | .absY w => .absY w
  | .indY z => .indY z

/-- What SHA, SHX, SHY and TAS store for the register value `r` (R310): `r & (H + 1)`. -/
def highStoreValue (r : Byte) (e : EffAddr) : Byte := r &&& (hiByte e.base + 1)

/-- Where they store it (R310): on a page cross the high byte of the address is the value. -/
def highStoreAddr (r : Byte) (e : EffAddr) : Word :=
  if e.crossed then cat (highStoreValue r e) (loByte e.addr) else e.addr

/-- The store of SHA, SHX, SHY and TAS (R310). -/
def writeHigh (m : MemOperand) (r : Byte) (s : State) : State :=
  let e := effAddr m s
  (memWrite (highStoreAddr r e.1) (highStoreValue r e.1) e.2).tick (writeCycles m)

end Sys2Proof.Machine
end

