-- ==== Sys2Proof/Machine/ArithLogic.lean ====
section
/-! DEFINITION. Arithmetic, logic, compare, increment and decrement (43_arith_logic.md R192 to R206). -/

namespace Sys2Proof.Machine

/-- `A <- AddWithCarry(A, m, C); SetNZ(A)`, shared by ADC, SBC, RRA and ISC. -/
def addToA (m : Byte) (s : State) : State :=
  let r := addWithCarry s.a m s.flags.c
  (s.setA r.value).setFlags (s.flags.setSum r)

/-- `A <- v; SetNZ(A)`. -/
def resultToA (v : Byte) (s : State) : State := (s.setA v).setNZ v

/-- Compare a register value with an operand (R191). -/
def compareWith (reg m : Byte) (s : State) : State := s.setFlags (s.flags.setCompare reg m)

/-- ADC (R192). -/
def execAdc (o : Source) (s : State) : Outcome :=
  let r := readSource o s
  .next (addToA r.1 r.2)

/-- SBC (R193): the sum with the operand's complement. -/
def execSbc (o : Source) (s : State) : Outcome :=
  let r := readSource o s
  .next (addToA (~~~r.1) r.2)

/-- AND (R194). -/
def execAnd (o : Source) (s : State) : Outcome :=
  let r := readSource o s
  .next (resultToA (s.a &&& r.1) r.2)

/-- ORA (R195). -/
def execOra (o : Source) (s : State) : Outcome :=
  let r := readSource o s
  .next (resultToA (s.a ||| r.1) r.2)

/-- EOR (R196). -/
def execEor (o : Source) (s : State) : Outcome :=
  let r := readSource o s
  .next (resultToA (s.a ^^^ r.1) r.2)

/-- CMP (R197). -/
def execCmp (o : Source) (s : State) : Outcome :=
  let r := readSource o s
  .next (compareWith s.a r.1 r.2)

/-- CPX (R198). -/
def execCpx (o : Source) (s : State) : Outcome :=
  let r := readSource o s
  .next (compareWith s.x r.1 r.2)

/-- CPY (R199). -/
def execCpy (o : Source) (s : State) : Outcome :=
  let r := readSource o s
  .next (compareWith s.y r.1 r.2)

/-- BIT (R200). -/
def execBit (m : MemOperand) (s : State) : Outcome :=
  let r := readMem m s
  .next (r.2.setFlags (r.2.flags.setBit s.a r.1))

/-- INC (R201). -/
def execInc (m : MemOperand) (s : State) : Outcome :=
  let r := modifyMem m (· + 1) s
  .next (r.2.setNZ (r.1 + 1))

/-- DEC (R202). -/
def execDec (m : MemOperand) (s : State) : Outcome :=
  let r := modifyMem m (· - 1) s
  .next (r.2.setNZ (r.1 - 1))

/-- INX (R203). -/
def execInx (s : State) : Outcome := .next (((s.setX (s.x + 1)).setNZ (s.x + 1)).tick 2)

/-- INY (R204). -/
def execIny (s : State) : Outcome := .next (((s.setY (s.y + 1)).setNZ (s.y + 1)).tick 2)

/-- DEX (R205). -/
def execDex (s : State) : Outcome := .next (((s.setX (s.x - 1)).setNZ (s.x - 1)).tick 2)

/-- DEY (R206). -/
def execDey (s : State) : Outcome := .next (((s.setY (s.y - 1)).setNZ (s.y - 1)).tick 2)

end Sys2Proof.Machine
end

