-- ==== Sys2Proof/Machine/Control.lean ====
section
/-! DEFINITION. Control transfer, BRK, RTI, the flag instructions and NOP (45_control.md R250 to R271). -/

namespace Sys2Proof.Machine

/-- JMP absolute (R250). -/
def execJmpAbs (w : Word) (s : State) : Outcome := .next ((s.setPc w).tick 3)

/-- JMP indirect (R250, R130). -/
def execJmpInd (w : Word) (s : State) : Outcome :=
  let r := jumpPointer w s
  .next ((r.2.setPc r.1).tick 5)

/-- JSR (R251). PC is at the high operand byte, which is read after the two pushes: of the decoded target
only the low byte counts (notes/assumptions/7.md). -/
def execJsr (w : Word) (s : State) : Outcome :=
  let s1 := pushWord s.pc s
  let h := memRead s1.pc s1
  .next ((h.2.setPc (cat h.1 (loByte w))).tick 6)

/-- RTS (R252). -/
def execRts (s : State) : Outcome :=
  let r := pullWord s
  .next ((r.2.setPc (r.1 + 1)).tick 6)

/-- The common rule of the branches (R253); PC is the address after the branch. -/
def branch (taken : Bool) (off : Byte) (s : State) : State :=
  let t := s.pc + sext16 off
  if taken then (s.setPc t).tick (2 + (1 + (hiByte t != hiByte s.pc).toNat)) else s.tick 2

/-- BCC (R254). -/
def execBcc (off : Byte) (s : State) : Outcome := .next (branch (!s.flags.c) off s)

/-- BCS (R255). -/
def execBcs (off : Byte) (s : State) : Outcome := .next (branch s.flags.c off s)

/-- BEQ (R256). -/
def execBeq (off : Byte) (s : State) : Outcome := .next (branch s.flags.z off s)

/-- BNE (R257). -/
def execBne (off : Byte) (s : State) : Outcome := .next (branch (!s.flags.z) off s)

/-- BMI (R258). -/
def execBmi (off : Byte) (s : State) : Outcome := .next (branch s.flags.n off s)

/-- BPL (R259). -/
def execBpl (off : Byte) (s : State) : Outcome := .next (branch (!s.flags.n) off s)

/-- BVC (R260). -/
def execBvc (off : Byte) (s : State) : Outcome := .next (branch (!s.flags.v) off s)

/-- BVS (R261). -/
def execBvs (off : Byte) (s : State) : Outcome := .next (branch s.flags.v off s)

/-- BRK (R262). The padding byte has been fetched, so PC is the address of BRK + 2; its value is ignored. -/
def execBrk (_pad : Byte) (s : State) : Outcome := .next ((takeInterrupt irqVector true s).tick 7)

/-- RTI (R263). -/
def execRti (s : State) : Outcome := .next ((returnFromInterrupt s).tick 6)

/-- CLC (R264). -/
def execClc (s : State) : Outcome := .next ((s.setFlags { s.flags with c := false }).tick 2)

/-- SEC (R265). -/
def execSec (s : State) : Outcome := .next ((s.setFlags { s.flags with c := true }).tick 2)

/-- CLI (R266). -/
def execCli (s : State) : Outcome := .next ((s.setFlags { s.flags with i := false }).tick 2)

/-- SEI (R267). -/
def execSei (s : State) : Outcome := .next ((s.setFlags { s.flags with i := true }).tick 2)

/-- CLD (R268). -/
def execCld (s : State) : Outcome := .next ((s.setFlags { s.flags with d := false }).tick 2)

/-- SED (R269). -/
def execSed (s : State) : Outcome := .next ((s.setFlags { s.flags with d := true }).tick 2)

/-- CLV (R270). -/
def execClv (s : State) : Outcome := .next ((s.setFlags { s.flags with v := false }).tick 2)

/-- NOP (R271). -/
def execNop (s : State) : Outcome := .next (s.tick 2)

end Sys2Proof.Machine
end

