-- ==== Sys2Proof/Machine/LoadStore.lean ====
section
/-! DEFINITION. Loads, stores and register transfers (41_load_store_transfer.md R150 to R161). -/

namespace Sys2Proof.Machine

/-- LDA (R150). -/
def execLda (o : Source) (s : State) : Outcome :=
  let r := readSource o s
  .next ((r.2.setA r.1).setNZ r.1)

/-- LDX (R151). -/
def execLdx (o : Source) (s : State) : Outcome :=
  let r := readSource o s
  .next ((r.2.setX r.1).setNZ r.1)

/-- LDY (R152). -/
def execLdy (o : Source) (s : State) : Outcome :=
  let r := readSource o s
  .next ((r.2.setY r.1).setNZ r.1)

/-- STA (R153). -/
def execSta (m : MemOperand) (s : State) : Outcome := .next (writeMem m s.a s)

/-- STX (R154). -/
def execStx (m : MemOperand) (s : State) : Outcome := .next (writeMem m s.x s)

/-- STY (R155). -/
def execSty (m : MemOperand) (s : State) : Outcome := .next (writeMem m s.y s)

/-- TAX (R156). -/
def execTax (s : State) : Outcome := .next (((s.setX s.a).setNZ s.a).tick 2)

/-- TAY (R157). -/
def execTay (s : State) : Outcome := .next (((s.setY s.a).setNZ s.a).tick 2)

/-- TXA (R158). -/
def execTxa (s : State) : Outcome := .next (((s.setA s.x).setNZ s.x).tick 2)

/-- TYA (R159). -/
def execTya (s : State) : Outcome := .next (((s.setA s.y).setNZ s.y).tick 2)

/-- TSX (R160). -/
def execTsx (s : State) : Outcome := .next (((s.setX s.sp).setNZ s.sp).tick 2)

/-- TXS (R161): no flag is written. -/
def execTxs (s : State) : Outcome := .next ((s.setSp s.x).tick 2)

end Sys2Proof.Machine
end

