-- ==== Sys2Proof/Machine/ShiftRotate.lean ====
section
/-! DEFINITION. Shifts and rotates (44_shift_rotate.md R230 to R233). -/

namespace Sys2Proof.Machine

/-- A shift or rotate `f` of a place: the result goes back, C is the bit shifted out, Z and N come from the
result. -/
def shiftPlace (p : Place) (f : Byte → Shifted) (s : State) : State :=
  let r := modifyPlace p (fun v => (f v).value) s
  r.2.setFlags (r.2.flags.setShifted (f r.1))

/-- ASL (R230). -/
def execAsl (p : Place) (s : State) : Outcome := .next (shiftPlace p shiftLeft s)

/-- LSR (R231). -/
def execLsr (p : Place) (s : State) : Outcome := .next (shiftPlace p shiftRight s)

/-- ROL (R232). -/
def execRol (p : Place) (s : State) : Outcome := .next (shiftPlace p (rotateLeft s.flags.c) s)

/-- ROR (R233). -/
def execRor (p : Place) (s : State) : Outcome := .next (shiftPlace p (rotateRight s.flags.c) s)

end Sys2Proof.Machine
end

