-- ==== Sys2Proof/Machine/Stack.lean ====
section
/-! DEFINITION. The stack instructions (42_stack.md R180 to R183). -/

namespace Sys2Proof.Machine

/-- PHA (R180). -/
def execPha (s : State) : Outcome := .next ((push s.a s).tick 3)

/-- PHP (R181): bits 4 and 5 of the pushed byte are 1. -/
def execPhp (s : State) : Outcome := .next ((push (packP true s.flags) s).tick 3)

/-- PLA (R182). -/
def execPla (s : State) : Outcome :=
  let r := pull s
  .next (((r.2.setA r.1).setNZ r.1).tick 4)

/-- PLP (R183). -/
def execPlp (s : State) : Outcome :=
  let r := pull s
  .next ((r.2.setFlags (unpackP r.1)).tick 4)

end Sys2Proof.Machine
end

