-- ==== Sys2Proof/Machine/Undocumented.lean ====
section
/-! DEFINITION. The undocumented opcodes (46_undocumented.md R291 to R315). -/

namespace Sys2Proof.Machine

/-- JAM (R291): halt until `reset()`. -/
def execJam (_r : JamRow) (s : State) : Outcome := .next ((s.setJammed true).tick 2)

/-- NOP, one byte (R292). -/
def execNopImplied (_r : NopRow) (s : State) : Outcome := .next (s.tick 2)

/-- NOP with an immediate byte, fetched and discarded (R293). -/
def execNopImm (_r : NopImmRow) (_b : Byte) (s : State) : Outcome := .next (s.tick 2)

/-- NOP zp (R294): the read is performed. -/
def execNopZp (_r : NopZpRow) (a : Byte) (s : State) : Outcome := .next (readMem (.zp a) s).2

/-- NOP zp,X (R294). -/
def execNopZpX (_r : NopRow) (a : Byte) (s : State) : Outcome := .next (readMem (.zpX a) s).2

/-- NOP abs (R294). -/
def execNopAbs (w : Word) (s : State) : Outcome := .next (readMem (.abs w) s).2

/-- NOP abs,X (R294). -/
def execNopAbsX (_r : NopRow) (w : Word) (s : State) : Outcome := .next (readMem (.absX w) s).2

/-- SLO (R295): ASL, then ORA. -/
def execSlo (m : MemOperand) (s : State) : Outcome :=
  let r := modifyMem m (fun v => (shiftLeft v).value) s
  let n := shiftLeft r.1
  .next (resultToA (s.a ||| n.value) (r.2.setFlags (r.2.flags.setShifted n)))

/-- RLA (R296): ROL, then AND. -/
def execRla (m : MemOperand) (s : State) : Outcome :=
  let r := modifyMem m (fun v => (rotateLeft s.flags.c v).value) s
  let n := rotateLeft s.flags.c r.1
  .next (resultToA (s.a &&& n.value) (r.2.setFlags (r.2.flags.setShifted n)))

/-- SRE (R297): LSR, then EOR. -/
def execSre (m : MemOperand) (s : State) : Outcome :=
  let r := modifyMem m (fun v => (shiftRight v).value) s
  let n := shiftRight r.1
  .next (resultToA (s.a ^^^ n.value) (r.2.setFlags (r.2.flags.setShifted n)))

/-- RRA (R298): ROR, then ADC with the carry the rotate left. -/
def execRra (m : MemOperand) (s : State) : Outcome :=
  let r := modifyMem m (fun v => (rotateRight s.flags.c v).value) s
  let n := rotateRight s.flags.c r.1
  .next (addToA n.value (r.2.setFlags (r.2.flags.setShifted n)))

/-- SAX (R299). -/
def execSax (m : MemOperand) (s : State) : Outcome := .next (writeMem m (s.a &&& s.x) s)

/-- LAX (R300). -/
def execLax (m : MemOperand) (s : State) : Outcome :=
  let r := readMem m s
  .next (((r.2.setA r.1).setX r.1).setNZ r.1)

/-- DCP (R301): DEC, then CMP. -/
def execDcp (m : MemOperand) (s : State) : Outcome :=
  let r := modifyMem m (· - 1) s
  .next (compareWith s.a (r.1 - 1) r.2)

/-- ISC (R302): INC, then SBC. -/
def execIsc (m : MemOperand) (s : State) : Outcome :=
  let r := modifyMem m (· + 1) s
  .next (addToA (~~~(r.1 + 1)) r.2)

/-- ANC (R303): AND, then C is the result's bit 7. -/
def execAnc (_r : AncRow) (b : Byte) (s : State) : Outcome :=
  let s1 := resultToA (s.a &&& b) s
  .next ((s1.setFlags { s1.flags with c := s1.a.getLsbD 7 }).tick 2)

/-- ALR (R304): AND, then LSR A. -/
def execAlr (b : Byte) (s : State) : Outcome :=
  let n := shiftRight (s.a &&& b)
  .next (((s.setA n.value).setFlags (s.flags.setShifted n)).tick 2)

/-- ARR (R305): AND, then ROR A, with flags of its own. -/
def execArr (b : Byte) (s : State) : Outcome :=
  let v := (rotateRight s.flags.c (s.a &&& b)).value
  .next (((s.setA v).setFlags (s.flags.setArr v)).tick 2)

/-- ANE (R306), with the OPEN constant. -/
def execAne (b : Byte) (s : State) : Outcome :=
  .next ((resultToA ((s.a ||| Config.aneMagic) &&& s.x &&& b) s).tick 2)

/-- LXA (R307), with the OPEN constant. -/
def execLxa (b : Byte) (s : State) : Outcome :=
  let v := (s.a ||| Config.lxaMagic) &&& b
  .next (((resultToA v s).setX v).tick 2)

/-- SBX (R308): C as by a compare, V and the borrow unused. -/
def execSbx (b : Byte) (s : State) : Outcome :=
  let t := s.a &&& s.x
  .next (((s.setX (t - b)).setFlags { s.flags.setNZ (t - b) with c := decide (b.toNat ≤ t.toNat) }).tick 2)

/-- The copy `$EB` of SBC immediate (R309). -/
def execSbcEB (b : Byte) (s : State) : Outcome :=
  let r := readSource (.imm b) s
  .next (addToA (~~~r.1) r.2)

/-- SHA (R311). -/
def execSha (o : ShaOperand) (s : State) : Outcome := .next (writeHigh (shaForm o) (s.a &&& s.x) s)

/-- SHX (R312). -/
def execShx (w : Word) (s : State) : Outcome := .next (writeHigh (.absY w) s.x s)

/-- SHY (R313). -/
def execShy (w : Word) (s : State) : Outcome := .next (writeHigh (.absX w) s.y s)

/-- TAS (R314): S first, then the store. -/
def execTas (w : Word) (s : State) : Outcome := .next (writeHigh (.absY w) (s.a &&& s.x) (s.setSp (s.a &&& s.x)))

/-- LAS (R315). -/
def execLas (w : Word) (s : State) : Outcome :=
  let r := readMem (.absY w) s
  let v := r.1 &&& s.sp
  .next ((((r.2.setA v).setX v).setSp v).setNZ v)

end Sys2Proof.Machine
end

