-- ==== Sys2Proof/WellFormed.lean ====
section
/-! DEFINITION. Which terms are instructions of the opcode table: each operation with the forms its
rule lists under "Encodings" (41 to 46 files). Operand bytes are never checked: "any byte value is
legal in any operand position" (30_encoding.md R99). And the check of a cartridge image
(20_memory.md R67). -/

namespace Sys2Proof

/-- The memory forms of ORA, AND, EOR, ADC, STA, LDA, CMP, SBC (R97) and of the combined
read-modify-write operations SLO to ISC (46_undocumented.md section 3): all but `zp,Y`. -/
def MemOperand.isGeneral : MemOperand → Bool
  | .zp _ | .zpX _ | .abs _ | .absX _ | .absY _ | .indX _ | .indY _ => true
  | .zpY _ => false

/-- The memory forms of ASL, LSR, ROL, ROR, INC, DEC and LDY: zp, zp,X, abs, abs,X. -/
def MemOperand.isXForm : MemOperand → Bool
  | .zp _ | .zpX _ | .abs _ | .absX _ => true
  | .zpY _ | .absY _ | .indX _ | .indY _ => false

/-- The memory forms of LDX: zp, zp,Y, abs, abs,Y (R151). -/
def MemOperand.isYForm : MemOperand → Bool
  | .zp _ | .zpY _ | .abs _ | .absY _ => true
  | .zpX _ | .absX _ | .indX _ | .indY _ => false

/-- The memory forms of BIT, CPX and CPY: zp, abs. -/
def MemOperand.isPlain : MemOperand → Bool
  | .zp _ | .abs _ => true
  | .zpX _ | .zpY _ | .absX _ | .absY _ | .indX _ | .indY _ => false

/-- The forms of STX: zp, zp,Y, abs (R154). -/
def MemOperand.isStx : MemOperand → Bool
  | .zp _ | .zpY _ | .abs _ => true
  | .zpX _ | .absX _ | .absY _ | .indX _ | .indY _ => false

/-- The forms of STY: zp, zp,X, abs (R155). -/
def MemOperand.isSty : MemOperand → Bool
  | .zp _ | .zpX _ | .abs _ => true
  | .zpY _ | .absX _ | .absY _ | .indX _ | .indY _ => false

/-- The forms of SAX: (zp,X), zp, abs, zp,Y (R299). -/
def MemOperand.isSax : MemOperand → Bool
  | .indX _ | .zp _ | .abs _ | .zpY _ => true
  | .zpX _ | .absX _ | .absY _ | .indY _ => false

/-- The forms of LAX: (zp,X), zp, abs, (zp),Y, zp,Y, abs,Y (R300). -/
def MemOperand.isLax : MemOperand → Bool
  | .indX _ | .zp _ | .abs _ | .indY _ | .zpY _ | .absY _ => true
  | .zpX _ | .absX _ => false

/-- An immediate operand is a form of every operation that has a `Source`; the memory form is checked. -/
def Source.admits (p : MemOperand → Bool) : Source → Bool
  | .imm _ => true
  | .mem m => p m

/-- The accumulator is a form of every operation that has a `Place`; the memory form is checked. -/
def Place.admits (p : MemOperand → Bool) : Place → Bool
  | .acc => true
  | .mem m => p m

/-- The instruction has a row in the opcode table (R96). -/
def Instr.wellFormed : Instr → Bool
  | .lda o | .adc o | .sbc o | .and o | .ora o | .eor o | .cmp o => o.admits MemOperand.isGeneral
  | .ldx o => o.admits MemOperand.isYForm
  | .ldy o => o.admits MemOperand.isXForm
  | .cpx o | .cpy o => o.admits MemOperand.isPlain
  | .sta m => m.isGeneral
  | .stx m => m.isStx
  | .sty m => m.isSty
  | .bit m => m.isPlain
  | .inc m | .dec m => m.isXForm
  | .asl p | .lsr p | .rol p | .ror p => p.admits MemOperand.isXForm
  | .slo m | .rla m | .sre m | .rra m | .dcp m | .isc m => m.isGeneral
  | .sax m => m.isSax
  | .lax m => m.isLax
  | .tax | .tay | .txa | .tya | .tsx | .txs | .pha | .php | .pla | .plp | .inx | .iny | .dex | .dey
  | .jmpAbs _ | .jmpInd _ | .jsr _ | .rts | .bcc _ | .bcs _ | .beq _ | .bne _ | .bmi _ | .bpl _ | .bvc _
  | .bvs _ | .brk _ | .rti | .clc | .sec | .cli | .sei | .cld | .sed | .clv | .nop | .jam _
  | .nopImplied _ | .nopImm _ _ | .nopZp _ _ | .nopZpX _ _ | .nopAbs _ | .nopAbsX _ _ | .anc _ _ | .alr _
  | .arr _ | .ane _ | .lxa _ | .sbx _ | .sbcEB _ | .sha _ | .shx _ | .shy _ | .tas _ | .las _ => true

/-- The two configuration errors of R67 (D21, D22). -/
inductive ImageError
  /-- the PRG image is neither 16384 nor 32768 bytes long -/
  | prgSize
  /-- the mapper identifier is not the baseline's -/
  | mapperId
  deriving DecidableEq, Repr

/-- The check "surfaced once at construction" (R67): `none` when a machine can be built. Where both are
wrong the PRG size is reported: notes/assumptions/18.md. -/
def CartridgeImage.check (img : CartridgeImage) : Option ImageError :=
  if img.prg.length ≠ 16384 ∧ img.prg.length ≠ 32768 then some .prgSize
  else if img.mapperId ≠ Config.baselineMapperId then some .mapperId
  else none

end Sys2Proof
end

