-- ==== Sys2Proof/Machine/Lines.lean ====
section
/-! DEFINITION. What the host may do between two steps (60_exceptions.md R362, 70_reset_and_hazards.md R381,
R382): the interrupt lines, Reset, and the construction of the machine from a cartridge. -/

namespace Sys2Proof.Machine

/-- `assert_nmi()` (R343). -/
def assertNmi (s : State) : State := s.setNmiPending true

/-- `assert_irq()` (R344). -/
def assertIrq (s : State) : State := s.setIrqLine true

/-- `deassert_irq()` (R344, R362; D4). -/
def deassertIrq (s : State) : State := s.setIrqLine false

/-- `reset()` (R381): no memory is written and no cycle counted. -/
def resetLine (s : State) : State :=
  let s1 := ((((s.setJammed false).setNmiPending false).setSp resetSp).setFlags { s.flags with i := true }).setIrqPollMask true
  let r := readWord resetVector s1
  r.2.setPc r.1

/-- The cartridge of an image that passed its check. -/
def cartridgeOf (img : CartridgeImage) : Cartridge :=
  { prgSize := if img.prg.length = 16384 then .k16 else .k32
    prg := Memory.ofBytesFrom 0 img.prg, chr := img.chr, mirroring := img.mirroring, mapperId := img.mapperId }

/-- The machine of `power_on` before its `reset()` (R382). S, I and PC are what that `reset()` writes over. -/
def beforeReset (cart : Cartridge) (ramInit : Vector Byte 2048) : State :=
  { a := 0x00, x := 0x00, y := 0x00, sp := 0x00, pc := 0x0000
    flags := { c := false, z := false, i := false, d := false, v := false, n := false }
    nmiPending := false, irqLine := false, irqPollMask := false, jammed := false
    openBus := Config.openBusInit, ram := Memory.ofBytesFrom 0 ramInit.toList, cart := cart, cycles := 0 }

/-- `power_on(cartridge)` (R382) with the OPEN parameter `RAM_INIT`; on a configuration error "there is no
machine" (R67). -/
def powerOn (img : CartridgeImage) (ramInit : Vector Byte 2048) : Outcome :=
  match img.check with
  | some .prgSize => .refused .prgSizeUnsupported
  | some .mapperId => .refused .mapperUnsupported
  | none => .next (resetLine (beforeReset (cartridgeOf img) ramInit))

/-- The operations of R362 other than `step()`. -/
inductive LineOp
  | assertNmi | assertIrq | deassertIrq | reset
  deriving DecidableEq, Repr

/-- One host operation between two steps (R342, R362). -/
def lineOp : LineOp → State → State
  | .assertNmi => assertNmi
  | .assertIrq => assertIrq
  | .deassertIrq => deassertIrq
  | .reset => resetLine

end Sys2Proof.Machine
end

