-- ==== Sys2Proof/Machine/Step.lean ====
section
/-! DEFINITION. One `step()` (60_exceptions.md R341), and the placing of a word where it fetches. -/

namespace Sys2Proof.Machine

/-- `step()` (R341): nothing if jammed, else one NMI entry, else one IRQ entry, else one instruction. The
cycles it returns are the growth of `cycles` (R42). -/
def step (s : State) : Host.Outcome State Fault Refusal :=
  match boundary s with
  | some t => .next t
  | none =>
    let f := fetchInstr s
    match exec f.1 f.2 with
    | .next t => .next (retire f.1 s t)
    | .fault r => .fault r
    | .refused r => .refused r

/-- `s` with an instruction's bytes placed where the next step fetches them (notes/assumptions/19.md). -/
def State.withFetchWord (s : State) (nbits w : Nat) : State := placeInstr nbits w s

end Sys2Proof.Machine
end

