-- ==== Sys2Proof/Safety.lean ====
section
/-! DEFINITION. What a safe state and a safe step are, and the terms the statements are written in. -/

namespace Sys2Proof.Machine

/-- The invariant of the machine: RAM and PRG keep their canonical form and lie inside their sizes (R39,
R40), and the mapper is the baseline (R67). -/
def State.Inv (s : State) : Prop :=
  s.ram.wf = true ∧ s.ram.within Config.ramBytes = true ∧
  s.cart.prg.wf = true ∧ s.cart.prg.within s.cart.prgSize.bytes = true ∧
  s.cart.mapperId = Config.baselineMapperId

/-- A safe state: the next step neither faults nor is refused (R51, R82, R340). -/
def State.Safe (s : State) : Prop := ∃ t, step s = .next t

/-- The next step runs an instruction: not jammed, no NMI latched, no unmasked IRQ (R341). -/
def State.Quiet (s : State) : Prop :=
  s.jammed = false ∧ s.nmiPending = false ∧ (s.irqLine = false ∨ s.irqPollMask = true)

/-- The three bytes successive fetches from PC would give. -/
def nextBytes (s : State) : List Byte :=
  let b0 := fetch s
  let b1 := fetch b0.2
  let b2 := fetch b1.2
  [b0.1, b1.1, b2.1]

/-- The state after `n` fetches. -/
def afterFetches : Nat → State → State
  | 0, s => s
  | n + 1, s => afterFetches n (fetch s).2

/-- How many bytes are fetched before an instruction's own rule starts: all, but for JSR (R251). -/
def fetchedBytes : Instr → Nat
  | .jsr _ => 2
  | i => i.length

/-- Every address reads as before: the driven byte of each address, and which addresses are driven. -/
def SameMemory (s t : State) : Prop := ∀ b : Word, ownerRead b t = ownerRead b s

/-- Every address that is not the cell of `a` (or a mirror of it) reads as before. -/
def SameMemoryBut (a : Word) (s t : State) : Prop :=
  ∀ b : Word, busDecode b ≠ busDecode a → ownerRead b t = ownerRead b s

/-- The address a memory form names (R124 to R129, R131, R132). -/
def addressOf (m : MemOperand) (s : State) : Word := (effAddr m s).1.addr

/-- Whether its indexing left the page (R134). -/
def crossedPage (m : MemOperand) (s : State) : Bool := (effAddr m s).1.crossed

/-- The byte a read of a memory form returns: the driven byte, or the latch its pointer reads left. -/
def memValue (m : MemOperand) (s : State) : Byte :=
  (ownerRead (addressOf m s) s).getD (effAddr m s).2.openBus

/-- The operand `M` of a read instruction (R136). -/
def operandValue : Source → State → Byte
  | .imm b, _ => b
  | .mem m, s => memValue m s

/-- The latch after the operand is read: an immediate was fetched before (R123, R56). -/
def operandLatch : Source → State → Byte
  | .imm _, s => s.openBus
  | .mem m, s => memValue m s

/-- The cycles of a read instruction (R396, R397, R135). -/
def operandCycles : Source → State → Nat
  | .imm _, _ => 2
  | .mem m, s => readCycles m + (crossedPage m s).toNat

/-- The byte of a place before a read-modify-write (R137). -/
def placeValue : Place → State → Byte
  | .acc, s => s.a
  | .mem m, s => memValue m s

/-- The two writes of a read-modify-write at `a`, first the old value, then the new one (R137). -/
def writeBack (a : Word) (old new : Byte) (s : State) : State := ownerWrite a new (ownerWrite a old s)

/-- The flags with Z and N of a result byte (R138). -/
def nzOf (v : Byte) (f : Flags) : Flags := { f with z := v == 0, n := v.getLsbD 7 }

/-- The byte of page 1 that a stack pointer designates (R24). -/
def stackByte (sp : Byte) (s : State) : Byte := s.ram.read (0x0100 + sp.toNat)

/-- The byte of the PRG image at an address from $8000 up (R64). -/
def prgByte (addr : Nat) (s : State) : Byte := s.cart.prg.read ((addr - 0x8000) % s.cart.prgSize.bytes)

/-- The memory form of an instruction's operand, where it has one (R96). -/
def memFormOf : Instr → Option MemOperand
  | .lda (.mem m) | .ldx (.mem m) | .ldy (.mem m) | .adc (.mem m) | .sbc (.mem m) | .and (.mem m) | .ora (.mem m)
  | .eor (.mem m) | .cmp (.mem m) | .cpx (.mem m) | .cpy (.mem m) | .asl (.mem m) | .lsr (.mem m) | .rol (.mem m)
  | .ror (.mem m) | .sta m | .stx m | .sty m | .bit m | .inc m | .dec m | .slo m | .rla m | .sre m | .rra m | .sax m
  | .lax m | .dcp m | .isc m => some m
  | .sha o => some (shaForm o)
  | .nopZp _ a => some (.zp a)
  | .nopZpX _ a => some (.zpX a)
  | .nopAbs w => some (.abs w)
  | .nopAbsX _ w | .shy w => some (.absX w)
  | .shx w | .tas w | .las w => some (.absY w)
  | _ => none

/-- "page crossed" of R396: the operand's indexing leaves its page (R134). -/
def pageCrossed (i : Instr) (s : State) : Bool :=
  match memFormOf i with
  | some m => crossedPage m s
  | none => false

/-- A branch's condition over the flags and its offset (R254 to R261). -/
def branchOf : Instr → Flags → Option (Bool × Byte)
  | .bcc off, f => some (!f.c, off)
  | .bcs off, f => some (f.c, off)
  | .bne off, f => some (!f.z, off)
  | .beq off, f => some (f.z, off)
  | .bpl off, f => some (!f.n, off)
  | .bmi off, f => some (f.n, off)
  | .bvc off, f => some (!f.v, off)
  | .bvs off, f => some (f.v, off)
  | _, _ => none

/-- The first two rows of R396's table, for an instruction with opcode `op` whose bytes have been fetched: a
branch, or `base(op)` and one more if the row has the penalty and the page is crossed. -/
def instrCycles (i : Instr) (op : Byte) (s : State) : Nat :=
  match branchOf i s.flags with
  | some (taken, off) =>
    2 + taken.toNat + (taken && hiByte (BitVec.ofInt 16 (s.pc.toNat + off.toInt)) != hiByte s.pc).toNat
  | none => (descriptor op).cycles + ((descriptor op).pagePenalty && pageCrossed i s).toNat

/-- The state after three pushes, PC high, PC low and the status with Break bit `b` (R346, R262), memory
only. -/
def frameWritten (b : Bool) (s : State) : State :=
  ownerWrite (stackAddr (s.sp - 2)) (packP b s.flags)
    (ownerWrite (stackAddr (s.sp - 1)) (loByte s.pc) (ownerWrite (stackAddr s.sp) (hiByte s.pc) s))

/-- Push a list of bytes, first one first. -/
def pushAll : List Byte → State → State
  | [], s => s
  | v :: vs, s => pushAll vs (push v s)

/-- Pull `n` bytes, the first pulled first. -/
def pullMany : Nat → State → List Byte × State
  | 0, s => ([], s)
  | n + 1, s =>
    let r := pull s
    let q := pullMany n r.2
    (r.1 :: q.1, q.2)

/-- A is written by these instructions (R21). -/
def writesA : Instr → Bool
  | .lda _ | .txa | .tya | .pla | .adc _ | .sbc _ | .and _ | .ora _ | .eor _ | .asl .acc | .lsr .acc | .rol .acc
  | .ror .acc | .slo _ | .rla _ | .sre _ | .rra _ | .lax _ | .isc _ | .anc _ _ | .alr _ | .arr _ | .ane _ | .lxa _
  | .sbcEB _ | .las _ => true
  | _ => false

/-- X is written by these instructions (R22). -/
def writesX : Instr → Bool
  | .ldx _ | .tax | .tsx | .inx | .dex | .lax _ | .lxa _ | .sbx _ | .las _ => true
  | _ => false

/-- Y is written by these instructions (R23). -/
def writesY : Instr → Bool
  | .ldy _ | .tay | .iny | .dey => true
  | _ => false

/-- S is written by these instructions (R24). -/
def writesS : Instr → Bool
  | .txs | .jsr _ | .rts | .rti | .brk _ | .pha | .php | .pla | .plp | .tas _ | .las _ => true
  | _ => false

/-- C is written by these instructions (R29). -/
def writesC : Instr → Bool
  | .adc _ | .sbc _ | .cmp _ | .cpx _ | .cpy _ | .asl _ | .lsr _ | .rol _ | .ror _ | .clc | .sec | .plp | .rti | .slo _
  | .rla _ | .sre _ | .rra _ | .dcp _ | .isc _ | .anc _ _ | .alr _ | .arr _ | .sbx _ | .sbcEB _ => true
  | _ => false

/-- Z and N are written by these instructions (R30, R34). -/
def writesZN : Instr → Bool
  | .lda _ | .ldx _ | .ldy _ | .tax | .tay | .txa | .tya | .tsx | .pla | .adc _ | .sbc _ | .and _ | .ora _ | .eor _
  | .cmp _ | .cpx _ | .cpy _ | .bit _ | .inc _ | .dec _ | .inx | .iny | .dex | .dey | .asl _ | .lsr _ | .rol _ | .ror _
  | .plp | .rti | .slo _ | .rla _ | .sre _ | .rra _ | .lax _ | .dcp _ | .isc _ | .anc _ _ | .alr _ | .arr _ | .ane _
  | .lxa _ | .sbx _ | .sbcEB _ | .las _ => true
  | _ => false

/-- I is written by these instructions (R31). -/
def writesI : Instr → Bool
  | .sei | .cli | .plp | .rti | .brk _ => true
  | _ => false

/-- D is written by these instructions (R32). -/
def writesD : Instr → Bool
  | .sed | .cld | .plp | .rti => true
  | _ => false

/-- V is written by these instructions (R33). -/
def writesV : Instr → Bool
  | .adc _ | .sbc _ | .bit _ | .clv | .plp | .rti | .rra _ | .isc _ | .arr _ | .sbcEB _ => true
  | _ => false

/-- The status is pushed by these instructions (R27). -/
def pushesStatus : Instr → Bool
  | .php | .brk _ => true
  | _ => false

/-- The same machine with another D flag. -/
def State.withD (b : Bool) (s : State) : State := s.setFlags { s.flags with d := b }

end Sys2Proof.Machine
end

