-- ==== Sys2Proof/Certificates/Slice0/Obligations.lean ====
section
/-! DEFINITION. The statements for the provers. A result is written as the whole next state, `s` with the
changed fields named, so that every field not named is unchanged. -/

open Sys2Proof Sys2Proof.Machine

/-! ### Reset, power-on and the host's lines -/

/-- 10_state.md R44, 70_reset_and_hazards.md R383: the reset state has the values a model "must reproduce
exactly", and the power-on zeros of R44. -/
def Obligations.ResetStateHasSpecValues : Prop :=
  State.reset.sp = 0xFD ∧ State.reset.flags.i = true ∧ State.reset.irqPollMask = true ∧
  State.reset.jammed = false ∧ State.reset.nmiPending = false ∧ State.reset.irqLine = false ∧
  State.reset.pc = cat (busValue 0xFFFD State.reset) (busValue 0xFFFC State.reset) ∧
  State.reset.openBus = busValue 0xFFFD State.reset ∧
  State.reset.a = 0 ∧ State.reset.x = 0 ∧ State.reset.y = 0 ∧ State.reset.flags.c = false ∧
  State.reset.flags.z = false ∧ State.reset.flags.d = false ∧ State.reset.flags.v = false ∧
  State.reset.flags.n = false ∧ State.reset.cycles = 0

/-- R380, R381, R343, R344, R362: what each of the host's operations does, whole. The Reset vector's two bytes are
PRG[PRG_SIZE - 4] and PRG[PRG_SIZE - 3]. -/
def Obligations.HostOperationsDoExactlyTheirEffect : Prop :=
  ∀ s : State,
    let l := s.cart.prg.read (s.cart.prgSize.bytes - 4)
    let h := s.cart.prg.read (s.cart.prgSize.bytes - 3)
    busValue 0xFFFC s = l ∧ busValue 0xFFFD s = h ∧
    resetLine s =
      { s with
        jammed := false, nmiPending := false, sp := 0xFD, flags := { s.flags with i := true },
        irqPollMask := true, openBus := h, pc := cat h l } ∧
    assertNmi s = { s with nmiPending := true } ∧
    assertIrq s = { s with irqLine := true } ∧
    deassertIrq s = { s with irqLine := false }

/-- R382: the machine `power_on` builds from a valid image, for every `RAM_INIT`, and none from another image. -/
def Obligations.PowerOnBuildsTheMachine : Prop :=
  ∀ (img : CartridgeImage) (ramInit : Vector Byte 2048),
    (img.check ≠ none → ∃ r, powerOn img ramInit = .refused r) ∧
    (img.check = none → ∃ t, powerOn img ramInit = .next t ∧
      t.a = 0 ∧ t.x = 0 ∧ t.y = 0 ∧ t.sp = 0xFD ∧
      t.flags = { c := false, z := false, i := true, d := false, v := false, n := false } ∧
      t.irqLine = false ∧ t.nmiPending = false ∧ t.irqPollMask = true ∧ t.jammed = false ∧ t.cycles = 0 ∧
      (∀ k : Fin 2048, t.ram.read k = ramInit[k]) ∧
      (∀ k : Fin img.prg.length, t.cart.prg.read k = img.prg[k]) ∧
      t.cart.prgSize.bytes = img.prg.length ∧ t.cart.chr = img.chr ∧
      t.cart.mirroring = img.mirroring ∧ t.cart.mapperId = img.mapperId ∧
      t.pc = cat (prgByte 0xFFFD t) (prgByte 0xFFFC t) ∧ t.openBus = prgByte 0xFFFD t)

/-- R67: no machine is created from an image of another PRG size or another mapper, and from those images
only. -/
def Obligations.BadCartridgesBuildNoMachine : Prop :=
  ∀ (img : CartridgeImage) (ramInit : Vector Byte 2048),
    (∃ r, powerOn img ramInit = .refused r) ↔
      ((img.prg.length ≠ 16384 ∧ img.prg.length ≠ 32768) ∨ img.mapperId ≠ 0)

/-! ### The bus, memory and the stack -/

/-- R54's table: the owner of every address, with the index it sees. That $4018-$401F is unused and not the mapper's
is the spec's own decision (92_eei_decisions.md D11, 90_conflicts.md C3). -/
def Obligations.EveryAddressHasItsOwner : Prop :=
  ∀ a : Word,
    (a.toNat ≤ 0x1FFF → busDecode a = .ram (a &&& 0x07FF).toNat) ∧
    (0x2000 ≤ a.toNat ∧ a.toNat ≤ 0x3FFF → busDecode a = .ppu (a &&& 0x0007).toNat) ∧
    (0x4000 ≤ a.toNat ∧ a.toNat ≤ 0x4017 → busDecode a = .apuIo (a.toNat - 0x4000)) ∧
    (0x4018 ≤ a.toNat ∧ a.toNat ≤ 0x401F → busDecode a = .unused) ∧
    (0x4020 ≤ a.toNat → busDecode a = .mapper a.toNat)

/-- R52, R56, R60 to R62, R64: a read answers the RAM or PRG byte, or the latch where nothing drives, and
leaves the byte it answers in the latch and nothing else changed. -/
def Obligations.BusReadsDriveTheLatch : Prop :=
  ∀ (a : Word) (s : State),
    (memRead a s).2 = { s with openBus := (memRead a s).1 } ∧
    (a.toNat ≤ 0x1FFF → (memRead a s).1 = s.ram.read (a &&& 0x07FF).toNat) ∧
    (0x2000 ≤ a.toNat ∧ a.toNat ≤ 0x7FFF → (memRead a s).1 = s.openBus) ∧
    (0x8000 ≤ a.toNat → (memRead a s).1 = s.cart.prg.read ((a.toNat - 0x8000) % s.cart.prgSize.bytes))

/-- R53, R55, R60 to R62, R65: a write outside RAM changes the latch and nothing else, and a write to RAM
changes besides the latch the one byte that its mirrors share. -/
def Obligations.BusWritesReachOnlyRam : Prop :=
  ∀ (a : Word) (v : Byte) (s : State),
    (0x2000 ≤ a.toNat → memWrite a v s = { s with openBus := v }) ∧
    (a.toNat ≤ 0x1FFF →
      (memWrite a v s = { s with openBus := v, ram := (memWrite a v s).ram }) ∧
      ∀ b : Word, s.Inv → b.toNat ≤ 0x1FFF →
        ownerRead b (memWrite a v s) = some (if b &&& 0x07FF = a &&& 0x07FF then v else s.ram.read (b &&& 0x07FF).toNat))

/-- The canonical form of memory (notes/assumptions/17.md): two canonical memories that read alike are equal
data. -/
def Obligations.CanonicalMemoriesAreEqualData : Prop :=
  ∀ m n : Memory, m.wf = true → n.wf = true → (∀ k, m.read k = n.read k) → m = n

/-- R70, R71, R72: push stores and then decrements, pull increments and then loads, both modulo 256 and inside
$0100-$01FF. -/
def Obligations.PushAndPullUseThePageOneStack : Prop :=
  ∀ (v : Byte) (s : State),
    push v s = { ownerWrite (stackAddr s.sp) v s with sp := s.sp - 1, openBus := v } ∧
    SameMemoryBut (stackAddr s.sp) s (push v s) ∧
    pull s = (stackByte (s.sp + 1) s, { s with sp := s.sp + 1, openBus := stackByte (s.sp + 1) s }) ∧
    (s.Inv → stackByte s.sp (push v s) = v) ∧
    (∀ p : Byte, 0x0100 ≤ (stackAddr p).toNat ∧ (stackAddr p).toNat ≤ 0x01FF) ∧
    (s.sp = 0x00 → stackAddr s.sp = 0x0100 ∧ (push v s).sp = 0xFF) ∧
    (s.sp = 0xFF → stackAddr (s.sp + 1) = 0x0100 ∧ (pull s).2.sp = 0x00)

/-- 95_test_vectors.md E7, generalised from 256 pushes at S = $FF: up to 256 pushes from any S, then as many
pulls, give the bytes back in reverse order and S back. -/
def Obligations.PulledBytesAreThePushedBytesReversed : Prop :=
  ∀ (vs : List Byte) (s : State), s.Inv → vs.length ≤ 256 →
    (pullMany vs.length (pushAll vs s)).1 = vs.reverse ∧
    (pullMany vs.length (pushAll vs s)).2.sp = s.sp

/-- R27, R28: the pushed status byte, bit by bit, and what unpacking a byte keeps of it. -/
def Obligations.StatusByteLayout : Prop :=
  ∀ (b : Bool) (f : Flags) (v : Byte),
    (packP b f).getLsbD 7 = f.n ∧ (packP b f).getLsbD 6 = f.v ∧ (packP b f).getLsbD 5 = true ∧
    (packP b f).getLsbD 4 = b ∧ (packP b f).getLsbD 3 = f.d ∧ (packP b f).getLsbD 2 = f.i ∧
    (packP b f).getLsbD 1 = f.z ∧ (packP b f).getLsbD 0 = f.c ∧
    unpackP v = { c := v.getLsbD 0, z := v.getLsbD 1, i := v.getLsbD 2, d := v.getLsbD 3, v := v.getLsbD 6,
                  n := v.getLsbD 7 } ∧
    unpackP (packP b f) = f ∧ packP b (unpackP v) = (v ||| 0x20) &&& 0xEF ||| bitAt b 4

/-! ### Encoding -/

/-- R91, R95, R96: every well-formed instruction, with every operand, decodes from its own bytes, whatever
bytes follow. -/
def Obligations.DecodeOfEncodeIsTheInstruction : Prop :=
  ∀ (i : Instr) (rest : List Byte), i.wellFormed = true → decode (encode i ++ rest) = .ok (i, rest)

/-- R95, R98: each word has one meaning: every three bytes decode to a well-formed instruction whose bytes
are the first of them. -/
def Obligations.EveryOpcodeDecodesAndEncodesBack : Prop :=
  ∀ op b1 b2 : Byte, ∃ i rest,
    decode [op, b1, b2] = .ok (i, rest) ∧ i.wellFormed = true ∧ encode i ++ rest = [op, b1, b2]

/-- R91, R96, R110: words written out from the encoding tables, one of each family. -/
def Obligations.SampleWordsDecodeAsTabled : Prop :=
  decode [0b10101001, 0x45] = .ok (.lda (.imm 0x45), []) ∧
  decode [0b10111101, 0x34, 0x12] = .ok (.lda (.mem (.absX 0x1234)), []) ∧
  decode [0b10010001, 0x20] = .ok (.sta (.indY 0x20), []) ∧
  decode [0b00001000] = .ok (.php, []) ∧
  decode [0b01100001, 0xFE] = .ok (.adc (.mem (.indX 0xFE)), []) ∧
  decode [0b01100110, 0x10] = .ok (.ror (.mem (.zp 0x10)), []) ∧
  decode [0b01101100, 0xFC, 0xFF] = .ok (.jmpInd 0xFFFC, []) ∧
  decode [0b00100000, 0x00, 0x90] = .ok (.jsr 0x9000, []) ∧
  decode [0b11010000, 0xF8] = .ok (.bne 0xF8, []) ∧
  decode [0b10111111, 0x34, 0x12] = .ok (.lax (.absY 0x1234), []) ∧
  decode [0b10011100, 0x00, 0x12] = .ok (.shy 0x1200, []) ∧
  decode [0b11010010] = .ok (.jam .rD, [])

/-! ### The step -/

/-- R120, R341: a quiet step fetches the instruction its next bytes decode to, runs it and sets the mask of the
next IRQ check. JSR's high operand byte is left to JSR (R251). -/
def Obligations.StepRunsTheDecodedInstruction : Prop :=
  ∀ (s : State) (i : Instr) (rest : List Byte), s.Quiet → decode (nextBytes s) = .ok (i, rest) →
    step s =
      match exec i (afterFetches (fetchedBytes i) s) with
      | .next t => .next { t with irqPollMask :=
          if i = .cli ∨ i = .sei ∨ i = .plp then s.flags.i else t.flags.i }
      | .fault r => .fault r
      | .refused r => .refused r

/-- R120, R25: what the fetches before an instruction change: PC moves past each byte modulo 65536, and the
latch holds the last byte. -/
def Obligations.FetchAdvancesPc : Prop :=
  ∀ s : State,
    fetch s = (busValue s.pc s, { s with pc := s.pc + 1, openBus := busValue s.pc s }) ∧
    (s.pc = 0xFFFF → (fetch s).2.pc = 0x0000)

/-- R51, R98, R340: from every state there is a next state; no step faults and none is refused. -/
def Obligations.EveryStateIsSafe : Prop :=
  ∀ s : State, s.Safe

/-- The invariant holds at reset. Its canonical form is the model's choice: notes/assumptions/17.md. -/
def Obligations.ResetMeetsTheInvariant : Prop := State.reset.Inv

/-- R39, R40: every step keeps RAM and PRG canonical and inside their sizes, and the mapper. The canonical form is the
model's choice: notes/assumptions/17.md. -/
def Obligations.StepKeepsTheInvariant : Prop :=
  ∀ s t : State, s.Inv → step s = .next t → t.Inv

/-- Power-on establishes the invariant and every host operation keeps it (R362, R382; the mapper by R67). The canonical
form in the invariant is the model's choice: notes/assumptions/17.md. -/
def Obligations.HostOperationsKeepTheInvariant : Prop :=
  (∀ (s : State) (o : LineOp), s.Inv → (lineOp o s).Inv) ∧
  (∀ (img : CartridgeImage) (ramInit : Vector Byte 2048) (t : State), powerOn img ramInit = .next t → t.Inv)

/-- R40, R65, R78: no step and no host operation changes the cartridge. -/
def Obligations.CartridgeIsImmutable : Prop :=
  (∀ s t : State, step s = .next t → t.cart = s.cart) ∧
  (∀ (s : State) (o : LineOp), (lineOp o s).cart = s.cart)

/-- R399: a step takes 1 to 8 cycles; a jammed one 1, an entry 7, a branch 2 to 4. -/
def Obligations.StepCyclesAreInRange : Prop :=
  (∀ s t : State, step s = .next t → s.cycles + 1 ≤ t.cycles ∧ t.cycles ≤ s.cycles + 8) ∧
  (∀ s t : State, s.jammed = true → step s = .next t → t.cycles = s.cycles + 1) ∧
  (∀ (v : Word) (s : State), (hardwareEntry v s).cycles = s.cycles + 7) ∧
  (∀ (b : Byte) (s t : State) (i : Instr),
    i ∈ [Instr.bcc b, .bcs b, .beq b, .bne b, .bmi b, .bpl b, .bvc b, .bvs b] → exec i s = .next t →
    s.cycles + 2 ≤ t.cycles ∧ t.cycles ≤ s.cycles + 4)

/-- R396, R135: an instruction takes exactly the base cycles of its row of the opcode table and one more if the row
has the page-cross penalty and its page is crossed; a branch 2, one more if taken, one more if taken to another
page. So does the step that runs it; a jammed step takes 1 cycle and one that takes an interrupt 7. -/
def Obligations.InstructionCyclesFollowTheTable : Prop :=
  (∀ (i : Instr) (op : Byte) (s t : State), opcodeOf i = some op → exec i s = .next t →
    t.cycles = s.cycles + instrCycles i op s) ∧
  (∀ s t : State, step s = .next t →
    (s.jammed = true → t.cycles = s.cycles + 1) ∧
    (s.jammed = false → s.nmiPending = true ∨ (s.irqLine = true ∧ s.irqPollMask = false) → t.cycles = s.cycles + 7) ∧
    (s.Quiet → ∀ (i : Instr) (rest : List Byte) (op : Byte), decode (nextBytes s) = .ok (i, rest) → opcodeOf i = some op →
      t.cycles = s.cycles + instrCycles i op (afterFetches (fetchedBytes i) s)))

/-- R291, R353: JAM sets `jammed`, in 2 cycles. A jammed machine counts a cycle a step and changes nothing else,
whatever its latches hold; of the host's operations only `reset()` leaves the state. -/
def Obligations.JamHaltsTheMachineUntilReset : Prop :=
  ∀ (r : JamRow) (s : State),
    exec (.jam r) s = .next { s with jammed := true, cycles := s.cycles + 2 } ∧
    (s.jammed = true →
      step s = .next { s with cycles := s.cycles + 1 } ∧
      (assertNmi s).jammed = true ∧ (assertIrq s).jammed = true ∧ (deassertIrq s).jammed = true ∧
      (resetLine s).jammed = false)

/-- R346: interrupt entry through a vector pushes PC high, PC low and the status with B clear, sets I, loads PC
from the vector and masks the next IRQ check, in 7 cycles, and changes nothing else. -/
def Obligations.InterruptEntryPushesAndVectors : Prop :=
  ∀ (vector : Word) (s : State), vector = 0xFFFA ∨ vector = 0xFFFE →
    hardwareEntry vector s =
      { frameWritten false s with
        sp := s.sp - 3, flags := { s.flags with i := true }, irqPollMask := true
        openBus := prgByte (vector.toNat + 1) s, cycles := s.cycles + 7
        pc := cat (prgByte (vector.toNat + 1) s) (prgByte vector.toNat s) } ∧
    (s.Inv →
      stackByte s.sp (hardwareEntry vector s) = hiByte s.pc ∧
      stackByte (s.sp - 1) (hardwareEntry vector s) = loByte s.pc ∧
      stackByte (s.sp - 2) (hardwareEntry vector s) = packP false s.flags)

/-- R343, R347, R349: a latched NMI is taken at the next boundary, before any IRQ and whatever I is; the entry
clears the latch and keeps the IRQ waiting. -/
def Obligations.NmiIsTakenFirst : Prop :=
  ∀ s : State, s.jammed = false → s.nmiPending = true →
    ∃ t, step s = .next t ∧ t = hardwareEntry 0xFFFA { s with nmiPending := false } ∧
      t.nmiPending = false ∧ t.irqLine = s.irqLine ∧ t.irqPollMask = true

/-- R344, R348: with no NMI, an asserted IRQ line is taken when the mask is clear and keeps its level; when the
mask is set the step is the one without the line, but for the line's level. -/
def Obligations.IrqIsTakenWhenUnmasked : Prop :=
  ∀ s : State, s.jammed = false → s.nmiPending = false → s.irqLine = true →
    (s.irqPollMask = false → step s = .next (hardwareEntry 0xFFFE s) ∧ (hardwareEntry 0xFFFE s).irqLine = true) ∧
    (s.irqPollMask = true → ∀ t, step { s with irqLine := false } = .next t → step s = .next { t with irqLine := true })

/-- R345: after an instruction the next IRQ check uses I as it was before a CLI, SEI or PLP, and I as it is now
after any other instruction; after an interrupt entry and after reset it is masked. -/
def Obligations.PollMaskLagsOnlyAfterCliSeiPlp : Prop :=
  (∀ s t : State, s.Quiet → step s = .next t →
    t.irqPollMask =
      (if busValue s.pc s = 0x58 ∨ busValue s.pc s = 0x78 ∨ busValue s.pc s = 0x28 then s.flags.i else t.flags.i)) ∧
  (∀ (vector : Word) (s : State), (hardwareEntry vector s).irqPollMask = true) ∧
  (∀ s : State, (resetLine s).irqPollMask = true)

/-- R350, R351: RTI run on the state an interrupt entry left, with the stack as the entry left it, resumes the
interrupted instruction: PC, the six flags and S as before, and every register. -/
def Obligations.RtiResumesTheInterruptedInstruction : Prop :=
  ∀ (vector : Word) (s u : State), s.Inv → u.sp = (hardwareEntry vector s).sp → u.ram = (hardwareEntry vector s).ram →
    ∃ t, exec .rti u = .next t ∧ t.pc = s.pc ∧ t.flags = s.flags ∧ t.sp = s.sp ∧ t.a = u.a ∧ t.x = u.x ∧ t.y = u.y

/-- R251, R252: RTS run with the stack as JSR left it returns to the byte after the JSR. At the meaning of JSR
PC is the address of the JSR's last byte. -/
def Obligations.RtsReturnsAfterTheJsr : Prop :=
  ∀ (w : Word) (s t u : State), s.Inv → exec (.jsr w) s = .next t → u.sp = t.sp → u.ram = t.ram →
    ∃ r, exec .rts u = .next r ∧ r.pc = s.pc + 1 ∧ r.sp = s.sp

/-! ### Operand forms -/

/-- R124 to R129, R131, R132, R134: the effective address of every memory form, and when it has crossed a page.
Zero-page pointers are RAM bytes whose second byte wraps within the page. -/
def Obligations.EffectiveAddressesAndPageCrosses : Prop :=
  ∀ (a z : Byte) (w : Word) (s : State),
    addressOf (.zp a) s = zext16 a ∧
    addressOf (.zpX a) s = zext16 (a + s.x) ∧
    addressOf (.zpY a) s = zext16 (a + s.y) ∧
    addressOf (.abs w) s = w ∧
    addressOf (.absX w) s = w + zext16 s.x ∧ crossedPage (.absX w) s = (hiByte (w + zext16 s.x) != hiByte w) ∧
    addressOf (.absY w) s = w + zext16 s.y ∧ crossedPage (.absY w) s = (hiByte (w + zext16 s.y) != hiByte w) ∧
    addressOf (.indX z) s = cat (s.ram.read (z + s.x + 1).toNat) (s.ram.read (z + s.x).toNat) ∧
    (let base := cat (s.ram.read (z + 1).toNat) (s.ram.read z.toNat)
     addressOf (.indY z) s = base + zext16 s.y ∧
     crossedPage (.indY z) s = (hiByte (base + zext16 s.y) != hiByte base)) ∧
    (∀ m : MemOperand, m ∈ [.zp a, .zpX a, .zpY a, .abs w, .indX z] → crossedPage m s = false)

/-! ### Loads, stores, transfers -/

/-- R150, R151, R152, R300, R315: a load writes its register and N, Z, from the operand; LAX writes A and X; LAS
writes A, X and S with the operand AND S. -/
def Obligations.LoadsReadTheirOperand : Prop :=
  ∀ (o : Source) (m : MemOperand) (w : Word) (s : State),
    (let v := operandValue o s
     let loaded := fun t : State =>
       { t with flags := nzOf v s.flags, openBus := operandLatch o s, cycles := s.cycles + operandCycles o s }
     exec (.lda o) s = .next (loaded { s with a := v }) ∧ exec (.ldx o) s = .next (loaded { s with x := v }) ∧
     exec (.ldy o) s = .next (loaded { s with y := v })) ∧
    (let v := memValue m s
     exec (.lax m) s = .next { s with a := v, x := v, flags := nzOf v s.flags, openBus := v,
                                      cycles := s.cycles + readCycles m + (crossedPage m s).toNat }) ∧
    (let v := memValue (.absY w) s &&& s.sp
     exec (.las w) s = .next { s with a := v, x := v, sp := v, flags := nzOf v s.flags, openBus := memValue (.absY w) s,
                                      cycles := s.cycles + 4 + (crossedPage (.absY w) s).toNat })

/-- R153, R154, R155, R299: a store writes its register (SAX: A AND X) at the effective address, no flag, and no
other byte. -/
def Obligations.StoresWriteTheirRegister : Prop :=
  ∀ (m : MemOperand) (s : State),
    let stored := fun v : Byte =>
      { ownerWrite (addressOf m s) v s with openBus := v, cycles := s.cycles + writeCycles m }
    exec (.sta m) s = .next (stored s.a) ∧ exec (.stx m) s = .next (stored s.x) ∧
    exec (.sty m) s = .next (stored s.y) ∧ exec (.sax m) s = .next (stored (s.a &&& s.x)) ∧
    ∀ v, SameMemoryBut (addressOf m s) s (stored v)

/-- R156 to R161, R203 to R206: transfers copy a register and set N, Z from it, but TXS sets no flag; the index
registers count up and down modulo 256 with C and V unchanged; 2 cycles, no bus access; one byte each. -/
def Obligations.RegisterInstructionsWriteOneRegister : Prop :=
  ∀ s : State,
    let with' := fun (v : Byte) (t : State) => { t with flags := nzOf v s.flags, cycles := s.cycles + 2 }
    exec .tax s = .next (with' s.a { s with x := s.a }) ∧ exec .tay s = .next (with' s.a { s with y := s.a }) ∧
    exec .txa s = .next (with' s.x { s with a := s.x }) ∧ exec .tya s = .next (with' s.y { s with a := s.y }) ∧
    exec .tsx s = .next (with' s.sp { s with x := s.sp }) ∧
    exec .txs s = .next { s with sp := s.x, cycles := s.cycles + 2 } ∧
    exec .inx s = .next (with' (s.x + 1) { s with x := s.x + 1 }) ∧
    exec .iny s = .next (with' (s.y + 1) { s with y := s.y + 1 }) ∧
    exec .dex s = .next (with' (s.x - 1) { s with x := s.x - 1 }) ∧
    exec .dey s = .next (with' (s.y - 1) { s with y := s.y - 1 }) ∧
    [Instr.tax, .tay, .txa, .tya, .tsx, .txs, .inx, .iny, .dex, .dey].map encode =
      [[0xAA], [0xA8], [0x8A], [0x98], [0xBA], [0x9A], [0xE8], [0xC8], [0xCA], [0x88]]

/-! ### Stack instructions -/

/-- R180 to R183: PHA pushes A and PHP the status with bits 4 and 5 set, with no flag changed; PLA pulls A and sets
N, Z; PLP pulls the six flags. -/
def Obligations.StackInstructionsPushAndPull : Prop :=
  ∀ s : State,
    let pushed := fun v : Byte =>
      { ownerWrite (stackAddr s.sp) v s with sp := s.sp - 1, openBus := v, cycles := s.cycles + 3 }
    let v := stackByte (s.sp + 1) s
    exec .pha s = .next (pushed s.a) ∧ exec .php s = .next (pushed (packP true s.flags)) ∧
    (s.Inv → ∀ w, stackByte s.sp (pushed w) = w) ∧
    exec .pla s = .next { s with a := v, sp := s.sp + 1, flags := nzOf v s.flags, openBus := v,
                                 cycles := s.cycles + 4 } ∧
    exec .plp s = .next { s with sp := s.sp + 1, openBus := v, cycles := s.cycles + 4,
                                 flags := { c := v.getLsbD 0, z := v.getLsbD 1, i := v.getLsbD 2, d := v.getLsbD 3,
                                            v := v.getLsbD 6, n := v.getLsbD 7 } } ∧
    [Instr.pha, .php, .pla, .plp].map encode = [[0x48], [0x08], [0x68], [0x28]]

/-! ### Arithmetic and logic -/

/-- R192: ADC's sum over the naturals, its carry and its signed overflow; D is not read. -/
def Obligations.AdcAddsWithCarry : Prop :=
  ∀ (o : Source) (s : State),
    let m := operandValue o s
    let total := s.a.toNat + m.toNat + s.flags.c.toNat
    let r : Byte := BitVec.ofNat 8 total
    exec (.adc o) s =
      .next { s with
        a := r
        flags := { c := decide (total ≥ 256), z := r == 0, i := s.flags.i, d := s.flags.d
                   v := ((s.a ^^^ r) &&& (m ^^^ r)).getLsbD 7, n := r.getLsbD 7 }
        openBus := operandLatch o s, cycles := s.cycles + operandCycles o s }

/-- R193, R309, in the rule's second form: A - M - (1 - C), C "no borrow", V of the signed difference; $EB is the
immediate form. -/
def Obligations.SbcSubtractsWithBorrow : Prop :=
  ∀ (o : Source) (s : State),
    let m := operandValue o s
    let borrow := (!s.flags.c).toNat
    let r : Byte := s.a - m - BitVec.ofNat 8 borrow
    exec (.sbc o) s =
      .next { s with
        a := r
        flags := { c := decide (s.a.toNat ≥ m.toNat + borrow), z := r == 0, i := s.flags.i, d := s.flags.d
                   v := ((s.a ^^^ m) &&& (s.a ^^^ r)).getLsbD 7, n := r.getLsbD 7 }
        openBus := operandLatch o s, cycles := s.cycles + operandCycles o s } ∧
    ∀ b : Byte, exec (.sbcEB b) s = exec (.sbc (.imm b)) s ∧ ∃ t, exec (.sbcEB b) s = .next t

/-- R190: the sum over the naturals narrowed to a byte, C the carry out of it, and V by its formula, which is set
exactly when the true signed sum lies outside -128..127. -/
def Obligations.AddWithCarryNarrowsTheExactSum : Prop :=
  ∀ (a m : Byte) (c : Bool),
    let total := a.toNat + m.toNat + c.toNat
    let r : Byte := BitVec.ofNat 8 total
    let signed := a.toInt + m.toInt + (c.toNat : Int)
    addWithCarry a m c =
      { value := r, carry := decide (total ≥ 256), overflow := ((a ^^^ r) &&& (m ^^^ r)).getLsbD 7 } ∧
    ((addWithCarry a m c).overflow = true ↔ signed < -128 ∨ 127 < signed)

/-- R194, R195, R196: the three bitwise operations with A; only N and Z of the flags. -/
def Obligations.LogicOperationsCombineWithA : Prop :=
  ∀ (o : Source) (s : State),
    let m := operandValue o s
    let result := fun v : Byte =>
      { s with a := v, flags := nzOf v s.flags, openBus := operandLatch o s, cycles := s.cycles + operandCycles o s }
    exec (.and o) s = .next (result (s.a &&& m)) ∧ exec (.ora o) s = .next (result (s.a ||| m)) ∧
    exec (.eor o) s = .next (result (s.a ^^^ m))

/-- R191, R197, R198, R199: a compare writes C, Z and N of the unsigned comparison and leaves V and every
register. -/
def Obligations.ComparesWriteOnlyCarryZeroNegative : Prop :=
  ∀ (o : Source) (s : State),
    let m := operandValue o s
    let compared := fun reg : Byte =>
      { s with
        flags := { s.flags with c := decide (reg.toNat ≥ m.toNat), z := decide (reg = m), n := (reg - m).getLsbD 7 }
        openBus := operandLatch o s, cycles := s.cycles + operandCycles o s }
    exec (.cmp o) s = .next (compared s.a) ∧ exec (.cpx o) s = .next (compared s.x) ∧
    exec (.cpy o) s = .next (compared s.y)

/-- R200: BIT takes Z from A AND M, N and V from M; A is unchanged. -/
def Obligations.BitTestsTheOperand : Prop :=
  ∀ (m : MemOperand) (s : State),
    let v := memValue m s
    exec (.bit m) s =
      .next { s with
        flags := { s.flags with z := decide (s.a &&& v = 0), n := v.getLsbD 7, v := v.getLsbD 6 }
        openBus := v, cycles := s.cycles + readCycles m + (crossedPage m s).toNat }

/-- R137, R201, R202: INC and DEC write the old value back and then the new one, and set N, Z from the new one. -/
def Obligations.IncAndDecModifyMemory : Prop :=
  ∀ (m : MemOperand) (s : State),
    let old := memValue m s
    let modified := fun new : Byte =>
      { writeBack (addressOf m s) old new s with
        flags := nzOf new s.flags, openBus := new, cycles := s.cycles + modifyCycles m }
    exec (.inc m) s = .next (modified (old + 1)) ∧ exec (.dec m) s = .next (modified (old - 1)) ∧
    ∀ new, SameMemoryBut (addressOf m s) s (modified new)

/-! ### Shifts and rotates -/

/-- R230 to R233: the four one-bit shifts, as arithmetic on the value and the old carry. The result goes to A in
the accumulator mode and through the double write (R137) in a memory mode. -/
def Obligations.ShiftsMoveOneBit : Prop :=
  ∀ (m : MemOperand) (s : State),
    let done := fun (r : Byte) (c : Bool) => { s.flags with c := c, z := r == 0, n := r.getLsbD 7 }
    let inA := fun (r : Byte) (c : Bool) => { s with a := r, flags := done r c, cycles := s.cycles + 2 }
    let inMem := fun (r : Byte) (c : Bool) =>
      { writeBack (addressOf m s) (memValue m s) r s with
        flags := done r c, openBus := r, cycles := s.cycles + modifyCycles m }
    let left := fun (v : Byte) (k : Nat) => (BitVec.ofNat 8 (2 * v.toNat + k) : Byte)
    let right := fun (v : Byte) (k : Nat) => (BitVec.ofNat 8 (v.toNat / 2 + 128 * k) : Byte)
    let k := s.flags.c.toNat
    let v := memValue m s
    exec (.asl .acc) s = .next (inA (left s.a 0) (s.a.getLsbD 7)) ∧
    exec (.asl (.mem m)) s = .next (inMem (left v 0) (v.getLsbD 7)) ∧
    exec (.rol .acc) s = .next (inA (left s.a k) (s.a.getLsbD 7)) ∧
    exec (.rol (.mem m)) s = .next (inMem (left v k) (v.getLsbD 7)) ∧
    exec (.lsr .acc) s = .next (inA (right s.a 0) (s.a.getLsbD 0)) ∧
    exec (.lsr (.mem m)) s = .next (inMem (right v 0) (v.getLsbD 0)) ∧
    exec (.ror .acc) s = .next (inA (right s.a k) (s.a.getLsbD 0)) ∧
    exec (.ror (.mem m)) s = .next (inMem (right v k) (v.getLsbD 0))

/-! ### Control transfer -/

/-- R250, R130: JMP loads PC with its operand, or with the two bytes at its pointer, the second from the same page
as the first. -/
def Obligations.JmpLoadsPc : Prop :=
  ∀ (w : Word) (s : State),
    exec (.jmpAbs w) s = .next { s with pc := w, cycles := s.cycles + 3 } ∧
    (let l := busValue w s
     let h := busValue (cat (hiByte w) (loByte w + 1)) { s with openBus := l }
     exec (.jmpInd w) s = .next { s with pc := cat h l, openBus := h, cycles := s.cycles + 5 })

/-- R251: JSR pushes PC, which is the address of its last byte, and then reads the high byte of its target there,
from memory as the pushes left it. -/
def Obligations.JsrPushesThenReadsItsHighByte : Prop :=
  ∀ (w : Word) (s : State),
    let pushed := ownerWrite (stackAddr (s.sp - 1)) (loByte s.pc) (ownerWrite (stackAddr s.sp) (hiByte s.pc) s)
    let h := (ownerRead s.pc pushed).getD (loByte s.pc)
    exec (.jsr w) s = .next { pushed with
      sp := s.sp - 2, pc := cat h (loByte w), openBus := h, cycles := s.cycles + 6 }

/-- R252, R263: RTS pulls PC, low byte first, and adds one; RTI pulls the status, bits 4 and 5 discarded, and then PC,
with no increment. -/
def Obligations.ReturnsPullPc : Prop :=
  ∀ s : State,
    exec .rts s = .next { s with
      sp := s.sp + 2, pc := cat (stackByte (s.sp + 2) s) (stackByte (s.sp + 1) s) + 1
      openBus := stackByte (s.sp + 2) s, cycles := s.cycles + 6 } ∧
    exec .rti s = .next { s with
      sp := s.sp + 3, flags := unpackP (stackByte (s.sp + 1) s)
      pc := cat (stackByte (s.sp + 3) s) (stackByte (s.sp + 2) s)
      openBus := stackByte (s.sp + 3) s, cycles := s.cycles + 6 } ∧
    encode .rts = [0x60] ∧ encode .rti = [0x40]

/-- R253 to R261: a branch whose condition holds goes to PC plus the signed offset, in 3 cycles or 4 where the
page differs; otherwise it takes 2 cycles. No flag and no memory is written. -/
def Obligations.BranchesFollowTheirCondition : Prop :=
  ∀ (off : Byte) (s : State),
    let target := BitVec.ofInt 16 (s.pc.toNat + off.toInt)
    let taken := { s with pc := target, cycles := s.cycles + (if hiByte target = hiByte s.pc then 3 else 4) }
    let result := fun cond : Bool => if cond then taken else { s with cycles := s.cycles + 2 }
    exec (.bcc off) s = .next (result (s.flags.c == false)) ∧ exec (.bcs off) s = .next (result (s.flags.c == true)) ∧
    exec (.bne off) s = .next (result (s.flags.z == false)) ∧ exec (.beq off) s = .next (result (s.flags.z == true)) ∧
    exec (.bpl off) s = .next (result (s.flags.n == false)) ∧ exec (.bmi off) s = .next (result (s.flags.n == true)) ∧
    exec (.bvc off) s = .next (result (s.flags.v == false)) ∧ exec (.bvs off) s = .next (result (s.flags.v == true))

/-- R262: BRK pushes PC, which is its own address + 2, and the status with B set, sets I and loads PC from
$FFFE/$FFFF, whatever I is and whatever its padding byte. -/
def Obligations.BrkPushesAndVectors : Prop :=
  ∀ (pad : Byte) (s : State),
    exec (.brk pad) s = .next { frameWritten true s with
      sp := s.sp - 3, flags := { s.flags with i := true }, openBus := prgByte 0xFFFF s
      pc := cat (prgByte 0xFFFF s) (prgByte 0xFFFE s), cycles := s.cycles + 7 } ∧
    ∀ t, s.Inv → exec (.brk pad) s = .next t →
      stackByte s.sp t = hiByte s.pc ∧ stackByte (s.sp - 1) t = loByte s.pc ∧
      stackByte (s.sp - 2) t = packP true s.flags

/-- R264 to R270: each flag instruction writes its one flag, in 2 cycles; one byte each. -/
def Obligations.FlagInstructionsWriteOneFlag : Prop :=
  ∀ s : State,
    let wrote := fun f : Flags => { s with flags := f, cycles := s.cycles + 2 }
    exec .clc s = .next (wrote { s.flags with c := false }) ∧ exec .sec s = .next (wrote { s.flags with c := true }) ∧
    exec .cli s = .next (wrote { s.flags with i := false }) ∧ exec .sei s = .next (wrote { s.flags with i := true }) ∧
    exec .cld s = .next (wrote { s.flags with d := false }) ∧ exec .sed s = .next (wrote { s.flags with d := true }) ∧
    exec .clv s = .next (wrote { s.flags with v := false }) ∧
    [Instr.clc, .sec, .cli, .sei, .cld, .sed, .clv].map encode =
      [[0x18], [0x38], [0x58], [0x78], [0xD8], [0xF8], [0xB8]]

/-- R271, R292, R293, R294: a NOP changes nothing but the cycle count and, in a memory form, the latch its read
drives. -/
def Obligations.NopsOnlyPassTime : Prop :=
  ∀ (r : NopRow) (ri : NopImmRow) (rz : NopZpRow) (b : Byte) (w : Word) (s : State),
    let idle := { s with cycles := s.cycles + 2 }
    let reads := fun (m : MemOperand) (k : Nat) =>
      { s with openBus := memValue m s, cycles := s.cycles + k + (crossedPage m s).toNat }
    exec .nop s = .next idle ∧ exec (.nopImplied r) s = .next idle ∧ exec (.nopImm ri b) s = .next idle ∧
    exec (.nopZp rz b) s = .next (reads (.zp b) 3) ∧ exec (.nopZpX r b) s = .next (reads (.zpX b) 4) ∧
    exec (.nopAbs w) s = .next (reads (.abs w) 4) ∧ exec (.nopAbsX r w) s = .next (reads (.absX w) 4)

/-! ### Undocumented operations -/

/-- R295, R296, R297: shift or rotate memory, then combine the result with A; N and Z are A's, C the shift's. -/
def Obligations.ShiftAndCombineOperations : Prop :=
  ∀ (m : MemOperand) (s : State),
    let v := memValue m s
    let k := s.flags.c.toNat
    let result := fun (new a : Byte) (c : Bool) =>
      { writeBack (addressOf m s) v new s with
        a := a, flags := { s.flags with c := c, z := a == 0, n := a.getLsbD 7 }, openBus := new
        cycles := s.cycles + modifyCycles m }
    let left := fun k : Nat => (BitVec.ofNat 8 (2 * v.toNat + k) : Byte)
    exec (.slo m) s = .next (result (left 0) (s.a ||| left 0) (v.getLsbD 7)) ∧
    exec (.rla m) s = .next (result (left k) (s.a &&& left k) (v.getLsbD 7)) ∧
    exec (.sre m) s = .next (result (BitVec.ofNat 8 (v.toNat / 2)) (s.a ^^^ BitVec.ofNat 8 (v.toNat / 2)) (v.getLsbD 0))

/-- R298, R301, R302: RRA rotates memory right and adds the result to A with the carry the rotate left; DCP
decrements memory and compares A with the result; ISC increments memory and subtracts the result from A with
borrow. -/
def Obligations.ModifyAndComputeOperations : Prop :=
  ∀ (m : MemOperand) (s : State),
    let v := memValue m s
    let borrow := (!s.flags.c).toNat
    let turned : Byte := BitVec.ofNat 8 (v.toNat / 2 + 128 * s.flags.c.toNat)
    let total := s.a.toNat + turned.toNat + (v.getLsbD 0).toNat
    let sum : Byte := BitVec.ofNat 8 total
    let r : Byte := s.a - (v + 1) - BitVec.ofNat 8 borrow
    exec (.rra m) s =
      .next { writeBack (addressOf m s) v turned s with
        a := sum
        flags := { c := decide (total ≥ 256), z := sum == 0, i := s.flags.i, d := s.flags.d
                   v := ((s.a ^^^ sum) &&& (turned ^^^ sum)).getLsbD 7, n := sum.getLsbD 7 }
        openBus := turned, cycles := s.cycles + modifyCycles m } ∧
    exec (.dcp m) s =
      .next { writeBack (addressOf m s) v (v - 1) s with
        flags := { s.flags with c := decide (s.a.toNat ≥ (v - 1).toNat), z := decide (s.a = v - 1),
                                n := (s.a - (v - 1)).getLsbD 7 }
        openBus := v - 1, cycles := s.cycles + modifyCycles m } ∧
    exec (.isc m) s =
      .next { writeBack (addressOf m s) v (v + 1) s with
        a := r
        flags := { c := decide (s.a.toNat ≥ (v + 1).toNat + borrow), z := r == 0, i := s.flags.i, d := s.flags.d
                   v := ((s.a ^^^ (v + 1)) &&& (s.a ^^^ r)).getLsbD 7, n := r.getLsbD 7 }
        openBus := v + 1, cycles := s.cycles + modifyCycles m }

/-- R303, R304, R305, R308: the immediate combinations, with the flags each rule gives. -/
def Obligations.ImmediateCombinations : Prop :=
  ∀ (row : AncRow) (b : Byte) (s : State),
    let t := s.a &&& b
    let u := s.a &&& s.x
    let half : Byte := BitVec.ofNat 8 (t.toNat / 2)
    let turned : Byte := BitVec.ofNat 8 (t.toNat / 2 + 128 * s.flags.c.toNat)
    exec (.anc row b) s =
      .next { s with a := t, flags := { nzOf t s.flags with c := t.getLsbD 7 }, cycles := s.cycles + 2 } ∧
    exec (.alr b) s =
      .next { s with a := half, flags := { nzOf half s.flags with c := t.getLsbD 0 }, cycles := s.cycles + 2 } ∧
    exec (.arr b) s =
      .next { s with
        a := turned
        flags := { nzOf turned s.flags with c := turned.getLsbD 6, v := turned.getLsbD 6 ^^ turned.getLsbD 5 }
        cycles := s.cycles + 2 } ∧
    exec (.sbx b) s =
      .next { s with
        x := u - b, flags := { nzOf (u - b) s.flags with c := decide (u.toNat ≥ b.toNat) }, cycles := s.cycles + 2 } ∧
    [Instr.anc .r0 b, .anc .r2 b, .alr b, .arr b, .sbx b].map encode =
      [[0x0B, b], [0x2B, b], [0x4B, b], [0x6B, b], [0xCB, b]]

/-- R306, R307: ANE and LXA, for any value of their OPEN constants, and the operands for which the constant does
not count. -/
def Obligations.UnstableImmediatesUseTheOpenConstants : Prop :=
  ∀ (b : Byte) (s : State),
    (let v := (s.a ||| Config.aneMagic) &&& s.x &&& b
     exec (.ane b) s = .next { s with a := v, flags := nzOf v s.flags, cycles := s.cycles + 2 } ∧
     (b = 0 → v = 0) ∧ (s.a = 0xFF → v = s.x &&& b)) ∧
    (let v := (s.a ||| Config.lxaMagic) &&& b
     exec (.lxa b) s = .next { s with a := v, x := v, flags := nzOf v s.flags, cycles := s.cycles + 2 } ∧
     (b = 0 → v = 0) ∧ (s.a = 0xFF → v = b)) ∧
    encode (.ane b) = [0x8B, b] ∧ encode (.lxa b) = [0xAB, b]

/-- R310 to R314: the stores of a register AND the base address's high byte plus one; on a page cross the high byte
of the address is the value stored. TAS writes S first. -/
def Obligations.HighByteStores : Prop :=
  ∀ (o : ShaOperand) (z : Byte) (w : Word) (s : State),
    let stores := fun (base : Word) (index r : Byte) (k : Nat) =>
      let ea := base + zext16 index
      let v := r &&& (hiByte base + 1)
      let addr := if hiByte ea = hiByte base then ea else cat v (loByte ea)
      { ownerWrite addr v s with openBus := v, cycles := s.cycles + k }
    exec (.sha o) s =
      .next (match o with
        | .absY w => stores w s.y (s.a &&& s.x) 5
        | .indY z => stores (cat (s.ram.read (z + 1).toNat) (s.ram.read z.toNat)) s.y (s.a &&& s.x) 6) ∧
    exec (.shx w) s = .next (stores w s.y s.x 5) ∧
    exec (.shy w) s = .next (stores w s.x s.y 5) ∧
    exec (.tas w) s = .next { stores w s.y (s.a &&& s.x) 5 with sp := s.a &&& s.x } ∧
    [Instr.sha (.indY z), .sha (.absY w), .shx w, .shy w, .tas w].map opcodeOf =
      [some 0x93, some 0x9F, some 0x9E, some 0x9C, some 0x9B]

/-! ### Rules over all instructions -/

/-- R136: an instruction that stores nothing leaves every byte of memory as it was. -/
def Obligations.FormsThatStoreNothingKeepMemory : Prop :=
  ∀ (o : Source) (m : MemOperand) (w : Word) (b : Byte) (j : JamRow) (n : NopRow) (ni : NopImmRow) (nz : NopZpRow)
    (an : AncRow) (i : Instr) (s t : State),
    i ∈ [Instr.lda o, .ldx o, .ldy o, .tax, .tay, .txa, .tya, .tsx, .txs, .pla, .plp, .adc o, .sbc o, .and o, .ora o,
         .eor o, .cmp o, .cpx o, .cpy o, .bit m, .inx, .iny, .dex, .dey, .asl .acc, .lsr .acc, .rol .acc, .ror .acc,
         .jmpAbs w, .jmpInd w, .rts, .bcc b, .bcs b, .beq b, .bne b, .bmi b, .bpl b, .bvc b, .bvs b, .rti, .clc, .sec,
         .cli, .sei, .cld, .sed, .clv, .nop, .jam j, .nopImplied n, .nopImm ni b, .nopZp nz b, .nopZpX n b, .nopAbs w,
         .nopAbsX n w, .lax m, .anc an b, .alr b, .arr b, .ane b, .lxa b, .sbx b, .sbcEB b, .las w] →
    exec i s = .next t → SameMemory s t

/-- R137, R153 to R155, R180, R181, R251, R262, R295 to R302, R310 to R314: an instruction that stores leaves every byte
but the ones it stores as it was. The address is its operand's effective address in the state it starts in, the
address R310 computes from that, or the stack bytes S designates. -/
def Obligations.StoresTouchOnlyTheirBytes : Prop :=
  ∀ (m : MemOperand) (o : ShaOperand) (w : Word) (pad : Byte) (i : Instr) (s t : State), exec i s = .next t →
    (i ∈ [Instr.sta m, .stx m, .sty m, .sax m, .inc m, .dec m, .asl (.mem m), .lsr (.mem m), .rol (.mem m), .ror (.mem m),
          .slo m, .rla m, .sre m, .rra m, .dcp m, .isc m] → SameMemoryBut (addressOf m s) s t) ∧
    (i = .sha o → SameMemoryBut (highStoreAddr (s.a &&& s.x) (effAddr (shaForm o) s).1) s t) ∧
    (i = .shx w → SameMemoryBut (highStoreAddr s.x (effAddr (.absY w) s).1) s t) ∧
    (i = .shy w → SameMemoryBut (highStoreAddr s.y (effAddr (.absX w) s).1) s t) ∧
    (i = .tas w → SameMemoryBut (highStoreAddr (s.a &&& s.x) (effAddr (.absY w) s).1) s t) ∧
    (i ∈ [Instr.pha, .php] → SameMemoryBut (stackAddr s.sp) s t) ∧
    (i = .jsr w → ∀ b, busDecode b ≠ busDecode (stackAddr s.sp) → busDecode b ≠ busDecode (stackAddr (s.sp - 1)) →
      ownerRead b t = ownerRead b s) ∧
    (i = .brk pad → ∀ b, busDecode b ≠ busDecode (stackAddr s.sp) → busDecode b ≠ busDecode (stackAddr (s.sp - 1)) →
      busDecode b ≠ busDecode (stackAddr (s.sp - 2)) → ownerRead b t = ownerRead b s)

/-- R32: D is inert: read by nothing but a push of the status. Another D gives the same next state, with that other D
where the instruction does not write D. -/
def Obligations.DecimalFlagIsInert : Prop :=
  ∀ (i : Instr) (d : Bool) (s t : State), pushesStatus i = false → exec i s = .next t →
    exec i (s.withD d) = .next (if writesD i then t else t.withD d)

/-- R21 to R24: A, X, Y and S are written by no instruction but those the rules list. -/
def Obligations.OnlyListedInstructionsWriteRegisters : Prop :=
  ∀ (i : Instr) (s t : State), exec i s = .next t →
    (writesA i = false → t.a = s.a) ∧ (writesX i = false → t.x = s.x) ∧ (writesY i = false → t.y = s.y) ∧
    (writesS i = false → t.sp = s.sp)

/-- R29 to R34: each flag is written by no instruction but those the rules list. -/
def Obligations.OnlyListedInstructionsWriteFlags : Prop :=
  ∀ (i : Instr) (s t : State), exec i s = .next t →
    (writesC i = false → t.flags.c = s.flags.c) ∧
    (writesZN i = false → t.flags.z = s.flags.z ∧ t.flags.n = s.flags.n) ∧
    (writesI i = false → t.flags.i = s.flags.i) ∧ (writesD i = false → t.flags.d = s.flags.d) ∧
    (writesV i = false → t.flags.v = s.flags.v)
end

