-- ==== Sys2Proof/Laws/Memory.lean ====
section
/-! SUPPORT. Reading, writing and filling a memory: read after write, and that every operation keeps the
canonical form and the bounds. -/

namespace Sys2Proof.Machine

theorem Memory.read_nil (a : Nat) : Memory.read [] a = Config.unlistedByte := rfl

theorem Memory.read_cons (k a : Nat) (v : Byte) (m : Memory) :
    Memory.read ((k, v) :: m) a = if k = a then v else Memory.read m a := rfl

theorem Memory.wf_cons (k : Nat) (v : Byte) (m : Memory) :
    Memory.wf ((k, v) :: m) = true ↔
      v ≠ Config.unlistedByte ∧ (∀ c ∈ m, k < c.1) ∧ Memory.wf m = true := by
  simp [Memory.wf, and_assoc]

/-- An address below every listed one reads as unlisted. -/
theorem Memory.read_of_below (m : Memory) (a : Nat) (h : ∀ c ∈ m, a < c.1) :
    m.read a = Config.unlistedByte := by
  induction m with
  | nil => rfl
  | cons c m ih =>
    obtain ⟨k, v⟩ := c
    have hk : a < k := h (k, v) (by simp)
    rw [Memory.read_cons, if_neg (by omega)]
    exact ih fun c hc => h c (by simp [hc])

/-- Reading the address just written gives the value written. -/
theorem Memory.read_write_same (m : Memory) (a : Nat) (v : Byte) (h : m.wf = true) :
    (m.write a v).read a = v := by
  induction m with
  | nil => by_cases hv : v = Config.unlistedByte <;> simp [Memory.write, Memory.read, hv]
  | cons c m ih =>
    obtain ⟨k, u⟩ := c
    obtain ⟨-, hlt, hm⟩ := (Memory.wf_cons k u m).1 h
    have below : ∀ b, b ≤ k → Memory.read m b = Config.unlistedByte := fun b hb =>
      Memory.read_of_below m b fun c hc => Nat.lt_of_le_of_lt hb (hlt c hc)
    unfold Memory.write
    by_cases h1 : a < k
    · by_cases hv : v = Config.unlistedByte
      · have hne : k ≠ a := by omega
        simp [h1, hv, Memory.read_cons, hne, below a (by omega)]
      · simp [h1, hv, Memory.read_cons]
    · by_cases h2 : a = k
      · by_cases hv : v = Config.unlistedByte
        · simp [h2, hv, below k (Nat.le_refl k)]
        · simp [h2, hv, Memory.read_cons]
      · have hne : k ≠ a := fun e => h2 e.symm
        simp [h1, h2, Memory.read_cons, hne, ih hm]

/-- A write leaves every other address alone. -/
theorem Memory.read_write_other (m : Memory) (a b : Nat) (v : Byte) (hne : b ≠ a) :
    (m.write a v).read b = m.read b := by
  induction m with
  | nil =>
    by_cases hv : v = Config.unlistedByte
    · simp [Memory.write, hv]
    · simp [Memory.write, hv, Memory.read, hne.symm]
  | cons c m ih =>
    obtain ⟨k, u⟩ := c
    unfold Memory.write
    by_cases h1 : a < k
    · by_cases hv : v = Config.unlistedByte <;> simp [h1, hv, Memory.read_cons, hne.symm]
    · by_cases h2 : a = k
      · subst h2
        by_cases hv : v = Config.unlistedByte <;> simp [hv, Memory.read_cons, hne.symm]
      · simp [h1, h2, Memory.read_cons, ih]

/-- The addresses of a written memory are the old ones and the written one. -/
theorem Memory.mem_write (m : Memory) (a : Nat) (v : Byte) (c : Host.Cell) (h : c ∈ m.write a v) :
    c.1 = a ∨ ∃ d ∈ m, d.1 = c.1 := by
  induction m with
  | nil =>
    by_cases hv : v = Config.unlistedByte <;> simp [Memory.write, hv] at h
    simp [h]
  | cons d m ih =>
    obtain ⟨k, u⟩ := d
    unfold Memory.write at h
    by_cases h1 : a < k
    · by_cases hv : v = Config.unlistedByte <;> simp [h1, hv] at h
      · exact .inr ⟨c, by simpa using h, rfl⟩
      · rcases h with rfl | h
        · exact .inl rfl
        · exact .inr ⟨c, by simpa using h, rfl⟩
    · by_cases h2 : a = k
      · subst h2
        by_cases hv : v = Config.unlistedByte <;> simp [hv] at h
        · exact .inr ⟨c, by simp [h], rfl⟩
        · rcases h with rfl | h
          · exact .inl rfl
          · exact .inr ⟨c, by simp [h], rfl⟩
      · simp only [h1, h2, if_false, List.mem_cons] at h
        rcases h with rfl | h
        · exact .inr ⟨_, by simp, rfl⟩
        · rcases ih h with h | ⟨d, hd, he⟩
          · exact .inl h
          · exact .inr ⟨d, by simp [hd], he⟩

/-- A write keeps the canonical form. -/
theorem Memory.write_keeps_wf (m : Memory) (a : Nat) (v : Byte) (h : m.wf = true) : (m.write a v).wf = true := by
  induction m with
  | nil => by_cases hv : v = Config.unlistedByte <;> simp [Memory.write, Memory.wf, hv]
  | cons c m ih =>
    obtain ⟨k, u⟩ := c
    obtain ⟨hu, hlt, hm⟩ := (Memory.wf_cons k u m).1 h
    unfold Memory.write
    by_cases h1 : a < k
    · by_cases hv : v = Config.unlistedByte
      · simpa [h1, hv] using h
      · simp only [h1, hv, if_true, if_false]
        refine (Memory.wf_cons _ _ _).2 ⟨hv, ?_, h⟩
        intro c hc
        rcases List.mem_cons.1 hc with rfl | hc
        · exact h1
        · exact Nat.lt_trans h1 (hlt c hc)
    · by_cases h2 : a = k
      · by_cases hv : v = Config.unlistedByte
        · simpa [h2, hv] using hm
        · simp only [h2, hv, Nat.lt_irrefl, if_true, if_false]
          exact (Memory.wf_cons _ _ _).2 ⟨hv, hlt, hm⟩
      · simp only [h1, h2, if_false]
        refine (Memory.wf_cons _ _ _).2 ⟨hu, ?_, ih hm⟩
        intro c hc
        rcases Memory.mem_write m a v c hc with e | ⟨d, hd, e⟩
        · omega
        · exact e ▸ hlt d hd

/-- A write below a bound keeps the memory inside it. -/
theorem Memory.write_keeps_within (m : Memory) (n a : Nat) (v : Byte) (ha : a < n) (h : m.within n = true) :
    (m.write a v).within n = true := by
  simp only [Memory.within, List.all_eq_true, decide_eq_true_eq] at h ⊢
  intro c hc
  rcases Memory.mem_write m a v c hc with e | ⟨d, hd, e⟩
  · omega
  · exact e ▸ h d hd

/-- Every cell of a filled memory lies at or after its start and before its end. -/
theorem Memory.mem_ofBytesFrom (bs : List Byte) (k : Nat) (c : Host.Cell) (h : c ∈ Memory.ofBytesFrom k bs) :
    k ≤ c.1 ∧ c.1 < k + bs.length := by
  induction bs generalizing k with
  | nil => simp [Memory.ofBytesFrom] at h
  | cons b bs ih =>
    unfold Memory.ofBytesFrom at h
    by_cases hb : b = Config.unlistedByte
    · have := ih (k + 1) (by simpa [hb] using h)
      simp only [List.length_cons]; omega
    · simp only [hb, if_false, List.mem_cons] at h
      simp only [List.length_cons]
      rcases h with rfl | h
      · simp
      · have := ih (k + 1) h; omega

/-- A filled memory is canonical. -/
theorem Memory.ofBytesFrom_wf (bs : List Byte) (k : Nat) : (Memory.ofBytesFrom k bs).wf = true := by
  induction bs generalizing k with
  | nil => rfl
  | cons b bs ih =>
    unfold Memory.ofBytesFrom
    by_cases hb : b = Config.unlistedByte
    · simpa [hb] using ih (k + 1)
    · simp only [hb, if_false]
      exact (Memory.wf_cons _ _ _).2 ⟨hb, fun c hc => (Memory.mem_ofBytesFrom bs (k + 1) c hc).1, ih (k + 1)⟩

/-- A filled memory lies inside its length. -/
theorem Memory.ofBytesFrom_within (bs : List Byte) (k : Nat) :
    (Memory.ofBytesFrom k bs).within (k + bs.length) = true := by
  simp only [Memory.within, List.all_eq_true, decide_eq_true_eq]
  exact fun c hc => (Memory.mem_ofBytesFrom bs k c hc).2

/-- A filled memory reads as its bytes. -/
theorem Memory.read_ofBytesFrom (bs : List Byte) (k j : Nat) (h : j < bs.length) :
    (Memory.ofBytesFrom k bs).read (k + j) = bs[j] := by
  induction bs generalizing k j with
  | nil => simp at h
  | cons b bs ih =>
    have early : (Memory.ofBytesFrom (k + 1) bs).read k = Config.unlistedByte :=
      Memory.read_of_below _ _ fun c hc => by
        have := (Memory.mem_ofBytesFrom bs (k + 1) c hc).1; omega
    unfold Memory.ofBytesFrom
    cases j with
    | zero => by_cases hb : b = Config.unlistedByte <;> simp [hb, Memory.read_cons, early]
    | succ j =>
      have h' : j < bs.length := by simpa using h
      have step := ih (k + 1) j h'
      rw [show k + 1 + j = k + (j + 1) by omega] at step
      by_cases hb : b = Config.unlistedByte
      · simpa [hb] using step
      · have hne : k ≠ k + (j + 1) := by omega
        simp only [hb, if_false, Memory.read_cons, if_neg hne, List.getElem_cons_succ]
        exact step

end Sys2Proof.Machine
end

