-- ==== Sys2Proof/Laws/State.lean ====
section
/-! SUPPORT. One lemma per field per update of `State`. -/

namespace Sys2Proof.Machine.State

section setA
variable (v : Byte) (s : State)
@[simp] theorem setA_a : (s.setA v).a = v := rfl
@[simp] theorem setA_x : (s.setA v).x = s.x := rfl
@[simp] theorem setA_y : (s.setA v).y = s.y := rfl
@[simp] theorem setA_sp : (s.setA v).sp = s.sp := rfl
@[simp] theorem setA_pc : (s.setA v).pc = s.pc := rfl
@[simp] theorem setA_flags : (s.setA v).flags = s.flags := rfl
@[simp] theorem setA_nmiPending : (s.setA v).nmiPending = s.nmiPending := rfl
@[simp] theorem setA_irqLine : (s.setA v).irqLine = s.irqLine := rfl
@[simp] theorem setA_irqPollMask : (s.setA v).irqPollMask = s.irqPollMask := rfl
@[simp] theorem setA_jammed : (s.setA v).jammed = s.jammed := rfl
@[simp] theorem setA_openBus : (s.setA v).openBus = s.openBus := rfl
@[simp] theorem setA_ram : (s.setA v).ram = s.ram := rfl
@[simp] theorem setA_cart : (s.setA v).cart = s.cart := rfl
@[simp] theorem setA_cycles : (s.setA v).cycles = s.cycles := rfl
end setA

section setX
variable (v : Byte) (s : State)
@[simp] theorem setX_a : (s.setX v).a = s.a := rfl
@[simp] theorem setX_x : (s.setX v).x = v := rfl
@[simp] theorem setX_y : (s.setX v).y = s.y := rfl
@[simp] theorem setX_sp : (s.setX v).sp = s.sp := rfl
@[simp] theorem setX_pc : (s.setX v).pc = s.pc := rfl
@[simp] theorem setX_flags : (s.setX v).flags = s.flags := rfl
@[simp] theorem setX_nmiPending : (s.setX v).nmiPending = s.nmiPending := rfl
@[simp] theorem setX_irqLine : (s.setX v).irqLine = s.irqLine := rfl
@[simp] theorem setX_irqPollMask : (s.setX v).irqPollMask = s.irqPollMask := rfl
@[simp] theorem setX_jammed : (s.setX v).jammed = s.jammed := rfl
@[simp] theorem setX_openBus : (s.setX v).openBus = s.openBus := rfl
@[simp] theorem setX_ram : (s.setX v).ram = s.ram := rfl
@[simp] theorem setX_cart : (s.setX v).cart = s.cart := rfl
@[simp] theorem setX_cycles : (s.setX v).cycles = s.cycles := rfl
end setX

section setY
variable (v : Byte) (s : State)
@[simp] theorem setY_a : (s.setY v).a = s.a := rfl
@[simp] theorem setY_x : (s.setY v).x = s.x := rfl
@[simp] theorem setY_y : (s.setY v).y = v := rfl
@[simp] theorem setY_sp : (s.setY v).sp = s.sp := rfl
@[simp] theorem setY_pc : (s.setY v).pc = s.pc := rfl
@[simp] theorem setY_flags : (s.setY v).flags = s.flags := rfl
@[simp] theorem setY_nmiPending : (s.setY v).nmiPending = s.nmiPending := rfl
@[simp] theorem setY_irqLine : (s.setY v).irqLine = s.irqLine := rfl
@[simp] theorem setY_irqPollMask : (s.setY v).irqPollMask = s.irqPollMask := rfl
@[simp] theorem setY_jammed : (s.setY v).jammed = s.jammed := rfl
@[simp] theorem setY_openBus : (s.setY v).openBus = s.openBus := rfl
@[simp] theorem setY_ram : (s.setY v).ram = s.ram := rfl
@[simp] theorem setY_cart : (s.setY v).cart = s.cart := rfl
@[simp] theorem setY_cycles : (s.setY v).cycles = s.cycles := rfl
end setY

section setSp
variable (v : Byte) (s : State)
@[simp] theorem setSp_a : (s.setSp v).a = s.a := rfl
@[simp] theorem setSp_x : (s.setSp v).x = s.x := rfl
@[simp] theorem setSp_y : (s.setSp v).y = s.y := rfl
@[simp] theorem setSp_sp : (s.setSp v).sp = v := rfl
@[simp] theorem setSp_pc : (s.setSp v).pc = s.pc := rfl
@[simp] theorem setSp_flags : (s.setSp v).flags = s.flags := rfl
@[simp] theorem setSp_nmiPending : (s.setSp v).nmiPending = s.nmiPending := rfl
@[simp] theorem setSp_irqLine : (s.setSp v).irqLine = s.irqLine := rfl
@[simp] theorem setSp_irqPollMask : (s.setSp v).irqPollMask = s.irqPollMask := rfl
@[simp] theorem setSp_jammed : (s.setSp v).jammed = s.jammed := rfl
@[simp] theorem setSp_openBus : (s.setSp v).openBus = s.openBus := rfl
@[simp] theorem setSp_ram : (s.setSp v).ram = s.ram := rfl
@[simp] theorem setSp_cart : (s.setSp v).cart = s.cart := rfl
@[simp] theorem setSp_cycles : (s.setSp v).cycles = s.cycles := rfl
end setSp

section setPc
variable (v : Word) (s : State)
@[simp] theorem setPc_a : (s.setPc v).a = s.a := rfl
@[simp] theorem setPc_x : (s.setPc v).x = s.x := rfl
@[simp] theorem setPc_y : (s.setPc v).y = s.y := rfl
@[simp] theorem setPc_sp : (s.setPc v).sp = s.sp := rfl
@[simp] theorem setPc_pc : (s.setPc v).pc = v := rfl
@[simp] theorem setPc_flags : (s.setPc v).flags = s.flags := rfl
@[simp] theorem setPc_nmiPending : (s.setPc v).nmiPending = s.nmiPending := rfl
@[simp] theorem setPc_irqLine : (s.setPc v).irqLine = s.irqLine := rfl
@[simp] theorem setPc_irqPollMask : (s.setPc v).irqPollMask = s.irqPollMask := rfl
@[simp] theorem setPc_jammed : (s.setPc v).jammed = s.jammed := rfl
@[simp] theorem setPc_openBus : (s.setPc v).openBus = s.openBus := rfl
@[simp] theorem setPc_ram : (s.setPc v).ram = s.ram := rfl
@[simp] theorem setPc_cart : (s.setPc v).cart = s.cart := rfl
@[simp] theorem setPc_cycles : (s.setPc v).cycles = s.cycles := rfl
end setPc

section setFlags
variable (v : Flags) (s : State)
@[simp] theorem setFlags_a : (s.setFlags v).a = s.a := rfl
@[simp] theorem setFlags_x : (s.setFlags v).x = s.x := rfl
@[simp] theorem setFlags_y : (s.setFlags v).y = s.y := rfl
@[simp] theorem setFlags_sp : (s.setFlags v).sp = s.sp := rfl
@[simp] theorem setFlags_pc : (s.setFlags v).pc = s.pc := rfl
@[simp] theorem setFlags_flags : (s.setFlags v).flags = v := rfl
@[simp] theorem setFlags_nmiPending : (s.setFlags v).nmiPending = s.nmiPending := rfl
@[simp] theorem setFlags_irqLine : (s.setFlags v).irqLine = s.irqLine := rfl
@[simp] theorem setFlags_irqPollMask : (s.setFlags v).irqPollMask = s.irqPollMask := rfl
@[simp] theorem setFlags_jammed : (s.setFlags v).jammed = s.jammed := rfl
@[simp] theorem setFlags_openBus : (s.setFlags v).openBus = s.openBus := rfl
@[simp] theorem setFlags_ram : (s.setFlags v).ram = s.ram := rfl
@[simp] theorem setFlags_cart : (s.setFlags v).cart = s.cart := rfl
@[simp] theorem setFlags_cycles : (s.setFlags v).cycles = s.cycles := rfl
end setFlags

section setNmiPending
variable (v : Bool) (s : State)
@[simp] theorem setNmiPending_a : (s.setNmiPending v).a = s.a := rfl
@[simp] theorem setNmiPending_x : (s.setNmiPending v).x = s.x := rfl
@[simp] theorem setNmiPending_y : (s.setNmiPending v).y = s.y := rfl
@[simp] theorem setNmiPending_sp : (s.setNmiPending v).sp = s.sp := rfl
@[simp] theorem setNmiPending_pc : (s.setNmiPending v).pc = s.pc := rfl
@[simp] theorem setNmiPending_flags : (s.setNmiPending v).flags = s.flags := rfl
@[simp] theorem setNmiPending_nmiPending : (s.setNmiPending v).nmiPending = v := rfl
@[simp] theorem setNmiPending_irqLine : (s.setNmiPending v).irqLine = s.irqLine := rfl
@[simp] theorem setNmiPending_irqPollMask : (s.setNmiPending v).irqPollMask = s.irqPollMask := rfl
@[simp] theorem setNmiPending_jammed : (s.setNmiPending v).jammed = s.jammed := rfl
@[simp] theorem setNmiPending_openBus : (s.setNmiPending v).openBus = s.openBus := rfl
@[simp] theorem setNmiPending_ram : (s.setNmiPending v).ram = s.ram := rfl
@[simp] theorem setNmiPending_cart : (s.setNmiPending v).cart = s.cart := rfl
@[simp] theorem setNmiPending_cycles : (s.setNmiPending v).cycles = s.cycles := rfl
end setNmiPending

section setIrqLine
variable (v : Bool) (s : State)
@[simp] theorem setIrqLine_a : (s.setIrqLine v).a = s.a := rfl
@[simp] theorem setIrqLine_x : (s.setIrqLine v).x = s.x := rfl
@[simp] theorem setIrqLine_y : (s.setIrqLine v).y = s.y := rfl
@[simp] theorem setIrqLine_sp : (s.setIrqLine v).sp = s.sp := rfl
@[simp] theorem setIrqLine_pc : (s.setIrqLine v).pc = s.pc := rfl
@[simp] theorem setIrqLine_flags : (s.setIrqLine v).flags = s.flags := rfl
@[simp] theorem setIrqLine_nmiPending : (s.setIrqLine v).nmiPending = s.nmiPending := rfl
@[simp] theorem setIrqLine_irqLine : (s.setIrqLine v).irqLine = v := rfl
@[simp] theorem setIrqLine_irqPollMask : (s.setIrqLine v).irqPollMask = s.irqPollMask := rfl
@[simp] theorem setIrqLine_jammed : (s.setIrqLine v).jammed = s.jammed := rfl
@[simp] theorem setIrqLine_openBus : (s.setIrqLine v).openBus = s.openBus := rfl
@[simp] theorem setIrqLine_ram : (s.setIrqLine v).ram = s.ram := rfl
@[simp] theorem setIrqLine_cart : (s.setIrqLine v).cart = s.cart := rfl
@[simp] theorem setIrqLine_cycles : (s.setIrqLine v).cycles = s.cycles := rfl
end setIrqLine

section setIrqPollMask
variable (v : Bool) (s : State)
@[simp] theorem setIrqPollMask_a : (s.setIrqPollMask v).a = s.a := rfl
@[simp] theorem setIrqPollMask_x : (s.setIrqPollMask v).x = s.x := rfl
@[simp] theorem setIrqPollMask_y : (s.setIrqPollMask v).y = s.y := rfl
@[simp] theorem setIrqPollMask_sp : (s.setIrqPollMask v).sp = s.sp := rfl
@[simp] theorem setIrqPollMask_pc : (s.setIrqPollMask v).pc = s.pc := rfl
@[simp] theorem setIrqPollMask_flags : (s.setIrqPollMask v).flags = s.flags := rfl
@[simp] theorem setIrqPollMask_nmiPending : (s.setIrqPollMask v).nmiPending = s.nmiPending := rfl
@[simp] theorem setIrqPollMask_irqLine : (s.setIrqPollMask v).irqLine = s.irqLine := rfl
@[simp] theorem setIrqPollMask_irqPollMask : (s.setIrqPollMask v).irqPollMask = v := rfl
@[simp] theorem setIrqPollMask_jammed : (s.setIrqPollMask v).jammed = s.jammed := rfl
@[simp] theorem setIrqPollMask_openBus : (s.setIrqPollMask v).openBus = s.openBus := rfl
@[simp] theorem setIrqPollMask_ram : (s.setIrqPollMask v).ram = s.ram := rfl
@[simp] theorem setIrqPollMask_cart : (s.setIrqPollMask v).cart = s.cart := rfl
@[simp] theorem setIrqPollMask_cycles : (s.setIrqPollMask v).cycles = s.cycles := rfl
end setIrqPollMask

section setJammed
variable (v : Bool) (s : State)
@[simp] theorem setJammed_a : (s.setJammed v).a = s.a := rfl
@[simp] theorem setJammed_x : (s.setJammed v).x = s.x := rfl
@[simp] theorem setJammed_y : (s.setJammed v).y = s.y := rfl
@[simp] theorem setJammed_sp : (s.setJammed v).sp = s.sp := rfl
@[simp] theorem setJammed_pc : (s.setJammed v).pc = s.pc := rfl
@[simp] theorem setJammed_flags : (s.setJammed v).flags = s.flags := rfl
@[simp] theorem setJammed_nmiPending : (s.setJammed v).nmiPending = s.nmiPending := rfl
@[simp] theorem setJammed_irqLine : (s.setJammed v).irqLine = s.irqLine := rfl
@[simp] theorem setJammed_irqPollMask : (s.setJammed v).irqPollMask = s.irqPollMask := rfl
@[simp] theorem setJammed_jammed : (s.setJammed v).jammed = v := rfl
@[simp] theorem setJammed_openBus : (s.setJammed v).openBus = s.openBus := rfl
@[simp] theorem setJammed_ram : (s.setJammed v).ram = s.ram := rfl
@[simp] theorem setJammed_cart : (s.setJammed v).cart = s.cart := rfl
@[simp] theorem setJammed_cycles : (s.setJammed v).cycles = s.cycles := rfl
end setJammed

section setOpenBus
variable (v : Byte) (s : State)
@[simp] theorem setOpenBus_a : (s.setOpenBus v).a = s.a := rfl
@[simp] theorem setOpenBus_x : (s.setOpenBus v).x = s.x := rfl
@[simp] theorem setOpenBus_y : (s.setOpenBus v).y = s.y := rfl
@[simp] theorem setOpenBus_sp : (s.setOpenBus v).sp = s.sp := rfl
@[simp] theorem setOpenBus_pc : (s.setOpenBus v).pc = s.pc := rfl
@[simp] theorem setOpenBus_flags : (s.setOpenBus v).flags = s.flags := rfl
@[simp] theorem setOpenBus_nmiPending : (s.setOpenBus v).nmiPending = s.nmiPending := rfl
@[simp] theorem setOpenBus_irqLine : (s.setOpenBus v).irqLine = s.irqLine := rfl
@[simp] theorem setOpenBus_irqPollMask : (s.setOpenBus v).irqPollMask = s.irqPollMask := rfl
@[simp] theorem setOpenBus_jammed : (s.setOpenBus v).jammed = s.jammed := rfl
@[simp] theorem setOpenBus_openBus : (s.setOpenBus v).openBus = v := rfl
@[simp] theorem setOpenBus_ram : (s.setOpenBus v).ram = s.ram := rfl
@[simp] theorem setOpenBus_cart : (s.setOpenBus v).cart = s.cart := rfl
@[simp] theorem setOpenBus_cycles : (s.setOpenBus v).cycles = s.cycles := rfl
end setOpenBus

section setRam
variable (v : Memory) (s : State)
@[simp] theorem setRam_a : (s.setRam v).a = s.a := rfl
@[simp] theorem setRam_x : (s.setRam v).x = s.x := rfl
@[simp] theorem setRam_y : (s.setRam v).y = s.y := rfl
@[simp] theorem setRam_sp : (s.setRam v).sp = s.sp := rfl
@[simp] theorem setRam_pc : (s.setRam v).pc = s.pc := rfl
@[simp] theorem setRam_flags : (s.setRam v).flags = s.flags := rfl
@[simp] theorem setRam_nmiPending : (s.setRam v).nmiPending = s.nmiPending := rfl
@[simp] theorem setRam_irqLine : (s.setRam v).irqLine = s.irqLine := rfl
@[simp] theorem setRam_irqPollMask : (s.setRam v).irqPollMask = s.irqPollMask := rfl
@[simp] theorem setRam_jammed : (s.setRam v).jammed = s.jammed := rfl
@[simp] theorem setRam_openBus : (s.setRam v).openBus = s.openBus := rfl
@[simp] theorem setRam_ram : (s.setRam v).ram = v := rfl
@[simp] theorem setRam_cart : (s.setRam v).cart = s.cart := rfl
@[simp] theorem setRam_cycles : (s.setRam v).cycles = s.cycles := rfl
end setRam

section setCart
variable (v : Cartridge) (s : State)
@[simp] theorem setCart_a : (s.setCart v).a = s.a := rfl
@[simp] theorem setCart_x : (s.setCart v).x = s.x := rfl
@[simp] theorem setCart_y : (s.setCart v).y = s.y := rfl
@[simp] theorem setCart_sp : (s.setCart v).sp = s.sp := rfl
@[simp] theorem setCart_pc : (s.setCart v).pc = s.pc := rfl
@[simp] theorem setCart_flags : (s.setCart v).flags = s.flags := rfl
@[simp] theorem setCart_nmiPending : (s.setCart v).nmiPending = s.nmiPending := rfl
@[simp] theorem setCart_irqLine : (s.setCart v).irqLine = s.irqLine := rfl
@[simp] theorem setCart_irqPollMask : (s.setCart v).irqPollMask = s.irqPollMask := rfl
@[simp] theorem setCart_jammed : (s.setCart v).jammed = s.jammed := rfl
@[simp] theorem setCart_openBus : (s.setCart v).openBus = s.openBus := rfl
@[simp] theorem setCart_ram : (s.setCart v).ram = s.ram := rfl
@[simp] theorem setCart_cart : (s.setCart v).cart = v := rfl
@[simp] theorem setCart_cycles : (s.setCart v).cycles = s.cycles := rfl
end setCart

section tick
variable (v : Nat) (s : State)
@[simp] theorem tick_a : (s.tick v).a = s.a := rfl
@[simp] theorem tick_x : (s.tick v).x = s.x := rfl
@[simp] theorem tick_y : (s.tick v).y = s.y := rfl
@[simp] theorem tick_sp : (s.tick v).sp = s.sp := rfl
@[simp] theorem tick_pc : (s.tick v).pc = s.pc := rfl
@[simp] theorem tick_flags : (s.tick v).flags = s.flags := rfl
@[simp] theorem tick_nmiPending : (s.tick v).nmiPending = s.nmiPending := rfl
@[simp] theorem tick_irqLine : (s.tick v).irqLine = s.irqLine := rfl
@[simp] theorem tick_irqPollMask : (s.tick v).irqPollMask = s.irqPollMask := rfl
@[simp] theorem tick_jammed : (s.tick v).jammed = s.jammed := rfl
@[simp] theorem tick_openBus : (s.tick v).openBus = s.openBus := rfl
@[simp] theorem tick_ram : (s.tick v).ram = s.ram := rfl
@[simp] theorem tick_cart : (s.tick v).cart = s.cart := rfl
@[simp] theorem tick_cycles : (s.tick v).cycles = s.cycles + v := rfl
end tick

section setNZ
variable (v : Byte) (s : State)
@[simp] theorem setNZ_a : (s.setNZ v).a = s.a := rfl
@[simp] theorem setNZ_x : (s.setNZ v).x = s.x := rfl
@[simp] theorem setNZ_y : (s.setNZ v).y = s.y := rfl
@[simp] theorem setNZ_sp : (s.setNZ v).sp = s.sp := rfl
@[simp] theorem setNZ_pc : (s.setNZ v).pc = s.pc := rfl
@[simp] theorem setNZ_flags : (s.setNZ v).flags = s.flags.setNZ v := rfl
@[simp] theorem setNZ_nmiPending : (s.setNZ v).nmiPending = s.nmiPending := rfl
@[simp] theorem setNZ_irqLine : (s.setNZ v).irqLine = s.irqLine := rfl
@[simp] theorem setNZ_irqPollMask : (s.setNZ v).irqPollMask = s.irqPollMask := rfl
@[simp] theorem setNZ_jammed : (s.setNZ v).jammed = s.jammed := rfl
@[simp] theorem setNZ_openBus : (s.setNZ v).openBus = s.openBus := rfl
@[simp] theorem setNZ_ram : (s.setNZ v).ram = s.ram := rfl
@[simp] theorem setNZ_cart : (s.setNZ v).cart = s.cart := rfl
@[simp] theorem setNZ_cycles : (s.setNZ v).cycles = s.cycles := rfl
end setNZ

end Sys2Proof.Machine.State
end

