-- ==== Sys2Proof/Laws/Bus.lean ====
section
/-! SUPPORT. What a bus access, a stack access and a fetch can do, said once each. -/

namespace Sys2Proof.Machine

/-! ### Bytes of an address -/

theorem cat_toNat (h l : Byte) : (cat h l).toNat = 256 * h.toNat + l.toNat := by
  unfold cat
  rw [BitVec.toNat_append, Nat.shiftLeft_eq, Nat.mul_comm, ← Nat.two_pow_add_eq_or_of_lt l.isLt]

theorem loByte_toNat (w : Word) : (loByte w).toNat = w.toNat % 256 := by
  simp [loByte, BitVec.extractLsb'_toNat]

theorem hiByte_toNat (w : Word) : (hiByte w).toNat = w.toNat / 256 := by
  have := w.isLt
  simp [hiByte, BitVec.extractLsb'_toNat, Nat.shiftRight_eq_div_pow]
  omega

@[simp] theorem cat_hiByte_loByte (w : Word) : cat (hiByte w) (loByte w) = w := by
  apply BitVec.eq_of_toNat_eq
  rw [cat_toNat, hiByte_toNat, loByte_toNat]; omega

@[simp] theorem hiByte_cat (h l : Byte) : hiByte (cat h l) = h := by
  apply BitVec.eq_of_toNat_eq
  have := l.isLt
  rw [hiByte_toNat, cat_toNat]; omega

@[simp] theorem loByte_cat (h l : Byte) : loByte (cat h l) = l := by
  apply BitVec.eq_of_toNat_eq
  have := l.isLt
  rw [loByte_toNat, cat_toNat]; omega

theorem zext16_toNat (b : Byte) : (zext16 b).toNat = b.toNat := by
  have := b.isLt
  simp [zext16, BitVec.toNat_setWidth]; omega

/-! ### Owners -/

/-- Every address below $2000 belongs to RAM (R54, R55). -/
theorem busDecode_ram {a : Word} (h : a.toNat < 0x2000) : busDecode a = .ram (a.toNat % 0x0800) := by
  simp [busDecode, h]

/-- Every address from $4020 up belongs to the mapper (R54). -/
theorem busDecode_mapper {a : Word} (h : 0x4020 ≤ a.toNat) : busDecode a = .mapper a.toNat := by
  simp [busDecode, show ¬a.toNat < 0x2000 by omega, show ¬a.toNat < 0x4000 by omega,
    show ¬a.toNat < 0x4018 by omega, show ¬a.toNat < 0x4020 by omega]

/-- A RAM index is below 2048. -/
theorem busDecode_ram_lt {a : Word} {k : Nat} (h : busDecode a = .ram k) : k < 2048 := by
  unfold busDecode at h
  split at h
  · cases h; exact Nat.mod_lt _ (by decide)
  all_goals (split at h <;> try cases h)
  all_goals (split at h <;> try cases h)
  all_goals (split at h <;> cases h)

theorem stackAddr_toNat (p : Byte) : (stackAddr p).toNat = 256 + p.toNat := by
  simp [stackAddr, cat_toNat]

@[simp] theorem busDecode_stackAddr (p : Byte) : busDecode (stackAddr p) = .ram (256 + p.toNat) := by
  have := p.isLt
  rw [busDecode_ram (by rw [stackAddr_toNat]; omega), stackAddr_toNat, Nat.mod_eq_of_lt (by omega)]

/-- Stack bytes of two stack pointers are two cells. -/
theorem busDecode_stackAddr_ne {p q : Byte} (h : p ≠ q) : busDecode (stackAddr p) ≠ busDecode (stackAddr q) := by
  intro e
  simp only [busDecode_stackAddr, Owner.ram.injEq] at e
  exact h (BitVec.eq_of_toNat_eq (by omega))

/-- A read depends on RAM and the cartridge alone, and on the latch where nothing drives. -/
theorem ownerRead_congr {s t : State} (a : Word) (hr : t.ram = s.ram) (hc : t.cart = s.cart) :
    ownerRead a t = ownerRead a s := by
  unfold ownerRead; rw [hr, hc]

section
variable (a : Word) (s : State)
@[simp] theorem ownerRead_setA (v) : ownerRead a (s.setA v) = ownerRead a s := rfl
@[simp] theorem ownerRead_setX (v) : ownerRead a (s.setX v) = ownerRead a s := rfl
@[simp] theorem ownerRead_setY (v) : ownerRead a (s.setY v) = ownerRead a s := rfl
@[simp] theorem ownerRead_setSp (v) : ownerRead a (s.setSp v) = ownerRead a s := rfl
@[simp] theorem ownerRead_setPc (v) : ownerRead a (s.setPc v) = ownerRead a s := rfl
@[simp] theorem ownerRead_setFlags (v) : ownerRead a (s.setFlags v) = ownerRead a s := rfl
@[simp] theorem ownerRead_setNZ (v) : ownerRead a (s.setNZ v) = ownerRead a s := rfl
@[simp] theorem ownerRead_setNmiPending (v) : ownerRead a (s.setNmiPending v) = ownerRead a s := rfl
@[simp] theorem ownerRead_setIrqLine (v) : ownerRead a (s.setIrqLine v) = ownerRead a s := rfl
@[simp] theorem ownerRead_setIrqPollMask (v) : ownerRead a (s.setIrqPollMask v) = ownerRead a s := rfl
@[simp] theorem ownerRead_setJammed (v) : ownerRead a (s.setJammed v) = ownerRead a s := rfl
@[simp] theorem ownerRead_setOpenBus (v) : ownerRead a (s.setOpenBus v) = ownerRead a s := rfl
@[simp] theorem ownerRead_tick (k) : ownerRead a (s.tick k) = ownerRead a s := rfl
end

/-- A read of RAM (R55). -/
theorem ownerRead_ram {a : Word} {k : Nat} (h : busDecode a = .ram k) (s : State) :
    ownerRead a s = some (s.ram.read k) := by
  simp [ownerRead, h]

/-- A read of PRG (R64). -/
theorem ownerRead_prg {a : Word} (h : 0x8000 ≤ a.toNat) (s : State) : ownerRead a s = some (prgByte a.toNat s) := by
  simp [ownerRead, busDecode_mapper (show 0x4020 ≤ a.toNat by omega), mapperRead, prgOffset, h, prgByte]

/-- Nothing drives between RAM and PRG (R60 to R62, R64). -/
theorem ownerRead_undriven {a : Word} (h1 : 0x2000 ≤ a.toNat) (h2 : a.toNat < 0x8000) (s : State) :
    ownerRead a s = none := by
  unfold ownerRead busDecode
  rw [if_neg (by omega)]
  split_ifs <;> simp [ppuRead, apuRead, mapperRead, prgOffset, show ¬0x8000 ≤ a.toNat by omega]

/-- All a write can do: one RAM byte, or nothing (R53, R60 to R62, R65). -/
theorem ownerWrite_eq (a : Word) (v : Byte) (s : State) :
    ownerWrite a v s = s.setRam (match busDecode a with | .ram k => s.ram.write k v | _ => s.ram) := by
  unfold ownerWrite
  cases busDecode a <;> rfl

section
variable (a : Word) (v : Byte) (s : State)
@[simp] theorem ownerWrite_a : (ownerWrite a v s).a = s.a := by simp [ownerWrite_eq]
@[simp] theorem ownerWrite_x : (ownerWrite a v s).x = s.x := by simp [ownerWrite_eq]
@[simp] theorem ownerWrite_y : (ownerWrite a v s).y = s.y := by simp [ownerWrite_eq]
@[simp] theorem ownerWrite_sp : (ownerWrite a v s).sp = s.sp := by simp [ownerWrite_eq]
@[simp] theorem ownerWrite_pc : (ownerWrite a v s).pc = s.pc := by simp [ownerWrite_eq]
@[simp] theorem ownerWrite_flags : (ownerWrite a v s).flags = s.flags := by simp [ownerWrite_eq]
@[simp] theorem ownerWrite_nmiPending : (ownerWrite a v s).nmiPending = s.nmiPending := by simp [ownerWrite_eq]
@[simp] theorem ownerWrite_irqLine : (ownerWrite a v s).irqLine = s.irqLine := by simp [ownerWrite_eq]
@[simp] theorem ownerWrite_irqPollMask : (ownerWrite a v s).irqPollMask = s.irqPollMask := by simp [ownerWrite_eq]
@[simp] theorem ownerWrite_jammed : (ownerWrite a v s).jammed = s.jammed := by simp [ownerWrite_eq]
@[simp] theorem ownerWrite_openBus : (ownerWrite a v s).openBus = s.openBus := by simp [ownerWrite_eq]
@[simp] theorem ownerWrite_cart : (ownerWrite a v s).cart = s.cart := by simp [ownerWrite_eq]
@[simp] theorem ownerWrite_cycles : (ownerWrite a v s).cycles = s.cycles := by simp [ownerWrite_eq]
end

/-- A write depends on the RAM it finds and on nothing else. -/
theorem ownerWrite_ram_congr {s t : State} (a : Word) (v : Byte) (h : t.ram = s.ram) :
    (ownerWrite a v t).ram = (ownerWrite a v s).ram := by
  rw [ownerWrite_eq, ownerWrite_eq]; simp [h]

/-- A write leaves every other cell as it was. -/
theorem ownerRead_ownerWrite_other {a b : Word} (v : Byte) (s : State) (h : busDecode b ≠ busDecode a) :
    ownerRead b (ownerWrite a v s) = ownerRead b s := by
  rw [ownerWrite_eq]
  unfold ownerRead
  cases hb : busDecode b with
  | ram k =>
    cases ha : busDecode a with
    | ram j =>
      have hne : k ≠ j := fun e => h (by rw [hb, ha, e])
      simp [Memory.read_write_other _ _ _ _ hne]
    | _ => simp
  | _ => simp

/-- Reading a RAM cell just written gives the byte written, at its own address and at its mirrors (R55). -/
theorem ownerRead_ownerWrite_same {a b : Word} {k : Nat} (v : Byte) (s : State) (hwf : s.ram.wf = true)
    (ha : busDecode a = .ram k) (hb : busDecode b = .ram k) : ownerRead b (ownerWrite a v s) = some v := by
  rw [ownerWrite_eq]
  simp [ownerRead, ha, hb, Memory.read_write_same _ _ _ hwf]

/-- What a bus read does (R52, R56). -/
@[simp] theorem memRead_fst (a : Word) (s : State) : (memRead a s).1 = busValue a s := rfl

@[simp] theorem memRead_snd (a : Word) (s : State) : (memRead a s).2 = s.setOpenBus (busValue a s) := rfl

/-- A driven address reads the same whatever the latch. -/
theorem busValue_of_driven {a : Word} {s : State} {v : Byte} (h : ownerRead a s = some v) : busValue a s = v := by
  simp [busValue, h]

@[simp] theorem busValue_stackAddr (p : Byte) (s : State) : busValue (stackAddr p) s = stackByte p s :=
  busValue_of_driven (ownerRead_ram (busDecode_stackAddr p) s)

theorem busValue_prg {a : Word} (h : 0x8000 ≤ a.toNat) (s : State) : busValue a s = prgByte a.toNat s :=
  busValue_of_driven (ownerRead_prg h s)

/-- A zero-page address is RAM (R77). -/
theorem busValue_zeroPage (b : Byte) (s : State) : busValue (zext16 b) s = s.ram.read b.toNat := by
  have hb := b.isLt
  have h : busDecode (zext16 b) = .ram b.toNat := by
    rw [busDecode_ram (by rw [zext16_toNat]; omega), zext16_toNat, Nat.mod_eq_of_lt (by omega)]
  exact busValue_of_driven (ownerRead_ram h s)

/-! ### Stack -/

/-- What a push does (R70). -/
theorem push_eq (v : Byte) (s : State) :
    push v s = ((ownerWrite (stackAddr s.sp) v s).setOpenBus v).setSp (s.sp - 1) := rfl

/-- What a pull does (R71). -/
theorem pull_eq (s : State) :
    pull s = (stackByte (s.sp + 1) s, (s.setSp (s.sp + 1)).setOpenBus (stackByte (s.sp + 1) s)) := by
  unfold pull
  rw [show memRead (stackAddr (s.sp + 1)) (s.setSp (s.sp + 1)) =
    (busValue (stackAddr (s.sp + 1)) (s.setSp (s.sp + 1)),
      (s.setSp (s.sp + 1)).setOpenBus (busValue (stackAddr (s.sp + 1)) (s.setSp (s.sp + 1)))) from rfl,
    busValue_stackAddr]
  rfl

/-- A push into a canonical RAM is read back at its stack byte. -/
theorem stackByte_ownerWrite_same (p v : Byte) (s : State) (hwf : s.ram.wf = true) :
    stackByte p (ownerWrite (stackAddr p) v s) = v := by
  simp [stackByte, ownerWrite_eq, Memory.read_write_same _ _ _ hwf]

theorem stackByte_ownerWrite_other {p q : Byte} (v : Byte) (s : State) (h : p ≠ q) :
    stackByte p (ownerWrite (stackAddr q) v s) = stackByte p s := by
  have hne : 256 + p.toNat ≠ 256 + q.toNat := fun e => h (BitVec.eq_of_toNat_eq (by omega))
  simp [stackByte, ownerWrite_eq, Memory.read_write_other _ _ _ _ hne]

/-- What a fetch does (R120). -/
theorem fetch_eq (s : State) :
    fetch s = (busValue s.pc s, (s.setOpenBus (busValue s.pc s)).setPc (s.pc + 1)) := rfl

/-- Fetches in a row change PC and the latch and nothing else. -/
theorem fetch_moves {s t : State} (h : ∃ p b, t = (s.setPc p).setOpenBus b) :
    ∃ p b, (fetch t).2 = (s.setPc p).setOpenBus b := by
  obtain ⟨p, b, rfl⟩ := h
  exact ⟨p + 1, busValue p ((s.setPc p).setOpenBus b), rfl⟩

/-- The fetches before an instruction change PC and the latch and nothing else. -/
theorem fetchInstr_snd (s : State) : ∃ p b, (fetchInstr s).2 = (s.setPc p).setOpenBus b := by
  have f1 : ∃ p b, (fetch s).2 = (s.setPc p).setOpenBus b := fetch_moves ⟨s.pc, s.openBus, rfl⟩
  have f2 := fetch_moves f1
  unfold fetchInstr
  dsimp only
  split
  · exact f1
  · exact f2
  · by_cases h : (fetch s).1 = 0x20
    · rw [if_pos h]; exact f2
    · rw [if_neg h]; exact fetch_moves f2

end Sys2Proof.Machine
end

