-- ==== Sys2Proof/Laws/Encoding.lean ====
section
/-! SUPPORT. The regularity of the opcode map (30_encoding.md R97): which bits of `aaabbbcc` select which operation and
form. Each law is about `decodeOpcode` or `descriptor`, the model's reading of R96's table, which wins where the two
differ; those places are named in the laws. -/

namespace Sys2Proof.Laws.Encoding

open Sys2Proof.Machine

/-- The opcode byte `aaabbbcc`. -/
def opcodeByte (aaa bbb : Fin 8) (cc : Fin 4) : Byte := BitVec.ofNat 8 (aaa * 32 + bbb * 4 + cc)

/-- Every byte is one `aaabbbcc`. -/
theorem exists_opcodeByte (op : Byte) : ∃ aaa bbb cc, opcodeByte aaa bbb cc = op := by
  have h := op.isLt
  refine ⟨⟨op.toNat / 32, by omega⟩, ⟨op.toNat / 4 % 8, by omega⟩, ⟨op.toNat % 4, by omega⟩, ?_⟩
  apply BitVec.eq_of_toNat_eq
  simp only [opcodeByte, BitVec.toNat_ofNat]
  omega

/-- `cc = 01`: the form of `bbb`: (zp,X), zp, #, abs, (zp),Y, zp,X, abs,Y, abs,X. -/
def sourceForm (bbb : Fin 8) (b1 b2 : Byte) : Source :=
  match bbb with
  | 0 => .mem (.indX b1)
  | 1 => .mem (.zp b1)
  | 2 => .imm b1
  | 3 => .mem (.abs (cat b2 b1))
  | 4 => .mem (.indY b1)
  | 5 => .mem (.zpX b1)
  | 6 => .mem (.absY (cat b2 b1))
  | 7 => .mem (.absX (cat b2 b1))

/-- `cc = 01`: the operation of `aaa`. STA has no `#` form: $89 is an undocumented NOP. -/
def sourceOperation (aaa : Fin 8) (o : Source) : Instr :=
  match aaa, o with
  | 0, o => .ora o
  | 1, o => .and o
  | 2, o => .eor o
  | 3, o => .adc o
  | 4, .mem m => .sta m
  | 4, .imm b => .nopImm .o89 b
  | 5, o => .lda o
  | 6, o => .cmp o
  | 7, o => .sbc o

/-- R97, `cc = 01`: all 32 opcode bytes. -/
theorem decode_cc01 (aaa bbb : Fin 8) (b1 b2 : Byte) :
    decodeOpcode (opcodeByte aaa bbb 1) b1 b2 = sourceOperation aaa (sourceForm bbb b1 b2) := by
  fin_cases aaa <;> fin_cases bbb <;> rfl

/-- R97, `cc = 10`: `aaa` selects ASL, ROL, LSR, ROR, STX, LDX, DEC, INC in every documented row with an operand. The
documented rows without one are TXA, TXS, TAX, TSX, DEX and NOP. -/
theorem descriptor_cc10 (aaa bbb : Fin 8) (h : (descriptor (opcodeByte aaa bbb 2)).documented = true) :
    let d := descriptor (opcodeByte aaa bbb 2)
    if d.mode = .imp then d.mnemonic ∈ ["TXA", "TXS", "TAX", "TSX", "DEX", "NOP"]
    else d.mnemonic = (#v["ASL", "ROL", "LSR", "ROR", "STX", "LDX", "DEC", "INC"] : Vector String 8)[aaa] := by
  revert aaa bbb; decide

/-- R97, `cc = 00`: the documented rows are BIT, JMP, STY, LDY, CPY, CPX, the single-byte and the branch instructions,
and by R96's table JSR and BRK, which has a padding byte. -/
theorem descriptor_cc00 (aaa bbb : Fin 8) (h : (descriptor (opcodeByte aaa bbb 0)).documented = true) :
    let d := descriptor (opcodeByte aaa bbb 0)
    d.mnemonic ∈ ["BIT", "JMP", "STY", "LDY", "CPY", "CPX"] ∨ d.length = 1 ∨ d.mode = .rel ∨
      d.mnemonic ∈ ["JSR", "BRK"] := by
  revert aaa bbb; decide

/-- The flag a branch's `xx` selects: N, V, C, Z. -/
def branchFlag (xx : Fin 4) (f : Flags) : Bool :=
  match xx with
  | 0 => f.n
  | 1 => f.v
  | 2 => f.c
  | 3 => f.z

/-- R97: the branches are `xxy10000`, taken when the flag of `xx` has the value `y`. -/
theorem branch_xxy10000 (xx : Fin 4) (y : Bool) (b1 b2 : Byte) (f : Flags) :
    branchOf (decodeOpcode (BitVec.ofNat 8 (xx * 64 + y.toNat * 32 + 0x10)) b1 b2) f =
      some (branchFlag xx f == y, b1) := by
  obtain ⟨c, z, i, d, v, n⟩ := f
  fin_cases xx <;> cases y <;> cases n <;> cases v <;> cases c <;> cases z <;> rfl

/-- R97, `cc = 11`: only undocumented opcodes. -/
theorem descriptor_cc11 (aaa bbb : Fin 8) : (descriptor (opcodeByte aaa bbb 3)).documented = false := by
  revert aaa bbb; decide

/-- `cc = 11`: the form of `bbb`, as for `cc = 01`; where `cc = 10` is STX or LDX it indexes by Y. `bbb = 2` has none. -/
def combinedForm (aaa bbb : Fin 8) (b1 b2 : Byte) : MemOperand :=
  match bbb with
  | 0 => .indX b1
  | 1 | 2 => .zp b1
  | 3 => .abs (cat b2 b1)
  | 4 => .indY b1
  | 5 => if aaa = 4 ∨ aaa = 5 then .zpY b1 else .zpX b1
  | 6 => .absY (cat b2 b1)
  | 7 => if aaa = 4 ∨ aaa = 5 then .absY (cat b2 b1) else .absX (cat b2 b1)

/-- `cc = 11`: the combination of the `cc = 01` and `cc = 10` operations of `aaa`: ORA and ASL, AND and ROL, EOR and LSR,
ADC and ROR, STA and STX, LDA and LDX, CMP and DEC, SBC and INC. -/
def combinedOperation (aaa : Fin 8) (m : MemOperand) : Instr :=
  match aaa with
  | 0 => .slo m
  | 1 => .rla m
  | 2 => .sre m
  | 3 => .rra m
  | 4 => .sax m
  | 5 => .lax m
  | 6 => .dcp m
  | 7 => .isc m

/-- R97, `cc = 11`, every memory form but those where R96's table wins: SHA ($93, $9F), TAS ($9B) and LAS ($BB). -/
theorem decode_cc11 (aaa bbb : Fin 8) (b1 b2 : Byte) (hb : bbb ≠ 2)
    (hx : opcodeByte aaa bbb 3 ∉ [(0x93 : Byte), 0x9B, 0x9F, 0xBB]) :
    decodeOpcode (opcodeByte aaa bbb 3) b1 b2 = combinedOperation aaa (combinedForm aaa bbb b1 b2) := by
  fin_cases aaa <;> fin_cases bbb <;> first | rfl | exact absurd rfl hb | exact absurd (by decide) hx

end Sys2Proof.Laws.Encoding
end

