-- ==== Sys2Proof/Laws/Exec.lean ====
section
/-! SUPPORT. `exec` of each constructor is its meaning, so that no proof unfolds the dispatch. -/

namespace Sys2Proof.Machine

variable (s : State)

@[simp] theorem exec_lda (o : Source) : exec (.lda o) s = execLda o s := rfl
@[simp] theorem exec_ldx (o : Source) : exec (.ldx o) s = execLdx o s := rfl
@[simp] theorem exec_ldy (o : Source) : exec (.ldy o) s = execLdy o s := rfl
@[simp] theorem exec_sta (m : MemOperand) : exec (.sta m) s = execSta m s := rfl
@[simp] theorem exec_stx (m : MemOperand) : exec (.stx m) s = execStx m s := rfl
@[simp] theorem exec_sty (m : MemOperand) : exec (.sty m) s = execSty m s := rfl
@[simp] theorem exec_tax : exec (.tax) s = execTax s := rfl
@[simp] theorem exec_tay : exec (.tay) s = execTay s := rfl
@[simp] theorem exec_txa : exec (.txa) s = execTxa s := rfl
@[simp] theorem exec_tya : exec (.tya) s = execTya s := rfl
@[simp] theorem exec_tsx : exec (.tsx) s = execTsx s := rfl
@[simp] theorem exec_txs : exec (.txs) s = execTxs s := rfl
@[simp] theorem exec_pha : exec (.pha) s = execPha s := rfl
@[simp] theorem exec_php : exec (.php) s = execPhp s := rfl
@[simp] theorem exec_pla : exec (.pla) s = execPla s := rfl
@[simp] theorem exec_plp : exec (.plp) s = execPlp s := rfl
@[simp] theorem exec_adc (o : Source) : exec (.adc o) s = execAdc o s := rfl
@[simp] theorem exec_sbc (o : Source) : exec (.sbc o) s = execSbc o s := rfl
@[simp] theorem exec_and (o : Source) : exec (.and o) s = execAnd o s := rfl
@[simp] theorem exec_ora (o : Source) : exec (.ora o) s = execOra o s := rfl
@[simp] theorem exec_eor (o : Source) : exec (.eor o) s = execEor o s := rfl
@[simp] theorem exec_cmp (o : Source) : exec (.cmp o) s = execCmp o s := rfl
@[simp] theorem exec_cpx (o : Source) : exec (.cpx o) s = execCpx o s := rfl
@[simp] theorem exec_cpy (o : Source) : exec (.cpy o) s = execCpy o s := rfl
@[simp] theorem exec_bit (m : MemOperand) : exec (.bit m) s = execBit m s := rfl
@[simp] theorem exec_inc (m : MemOperand) : exec (.inc m) s = execInc m s := rfl
@[simp] theorem exec_dec (m : MemOperand) : exec (.dec m) s = execDec m s := rfl
@[simp] theorem exec_inx : exec (.inx) s = execInx s := rfl
@[simp] theorem exec_iny : exec (.iny) s = execIny s := rfl
@[simp] theorem exec_dex : exec (.dex) s = execDex s := rfl
@[simp] theorem exec_dey : exec (.dey) s = execDey s := rfl
@[simp] theorem exec_asl (p : Place) : exec (.asl p) s = execAsl p s := rfl
@[simp] theorem exec_lsr (p : Place) : exec (.lsr p) s = execLsr p s := rfl
@[simp] theorem exec_rol (p : Place) : exec (.rol p) s = execRol p s := rfl
@[simp] theorem exec_ror (p : Place) : exec (.ror p) s = execRor p s := rfl
@[simp] theorem exec_jmpAbs (w : Word) : exec (.jmpAbs w) s = execJmpAbs w s := rfl
@[simp] theorem exec_jmpInd (w : Word) : exec (.jmpInd w) s = execJmpInd w s := rfl
@[simp] theorem exec_jsr (w : Word) : exec (.jsr w) s = execJsr w s := rfl
@[simp] theorem exec_rts : exec (.rts) s = execRts s := rfl
@[simp] theorem exec_bcc (off : Byte) : exec (.bcc off) s = execBcc off s := rfl
@[simp] theorem exec_bcs (off : Byte) : exec (.bcs off) s = execBcs off s := rfl
@[simp] theorem exec_beq (off : Byte) : exec (.beq off) s = execBeq off s := rfl
@[simp] theorem exec_bne (off : Byte) : exec (.bne off) s = execBne off s := rfl
@[simp] theorem exec_bmi (off : Byte) : exec (.bmi off) s = execBmi off s := rfl
@[simp] theorem exec_bpl (off : Byte) : exec (.bpl off) s = execBpl off s := rfl
@[simp] theorem exec_bvc (off : Byte) : exec (.bvc off) s = execBvc off s := rfl
@[simp] theorem exec_bvs (off : Byte) : exec (.bvs off) s = execBvs off s := rfl
@[simp] theorem exec_brk (pad : Byte) : exec (.brk pad) s = execBrk pad s := rfl
@[simp] theorem exec_rti : exec (.rti) s = execRti s := rfl
@[simp] theorem exec_clc : exec (.clc) s = execClc s := rfl
@[simp] theorem exec_sec : exec (.sec) s = execSec s := rfl
@[simp] theorem exec_cli : exec (.cli) s = execCli s := rfl
@[simp] theorem exec_sei : exec (.sei) s = execSei s := rfl
@[simp] theorem exec_cld : exec (.cld) s = execCld s := rfl
@[simp] theorem exec_sed : exec (.sed) s = execSed s := rfl
@[simp] theorem exec_clv : exec (.clv) s = execClv s := rfl
@[simp] theorem exec_nop : exec (.nop) s = execNop s := rfl
@[simp] theorem exec_jam (r : JamRow) : exec (.jam r) s = execJam r s := rfl
@[simp] theorem exec_nopImplied (r : NopRow) : exec (.nopImplied r) s = execNopImplied r s := rfl
@[simp] theorem exec_nopImm (r : NopImmRow) (b : Byte) : exec (.nopImm r b) s = execNopImm r b s := rfl
@[simp] theorem exec_nopZp (r : NopZpRow) (a : Byte) : exec (.nopZp r a) s = execNopZp r a s := rfl
@[simp] theorem exec_nopZpX (r : NopRow) (a : Byte) : exec (.nopZpX r a) s = execNopZpX r a s := rfl
@[simp] theorem exec_nopAbs (w : Word) : exec (.nopAbs w) s = execNopAbs w s := rfl
@[simp] theorem exec_nopAbsX (r : NopRow) (w : Word) : exec (.nopAbsX r w) s = execNopAbsX r w s := rfl
@[simp] theorem exec_slo (m : MemOperand) : exec (.slo m) s = execSlo m s := rfl
@[simp] theorem exec_rla (m : MemOperand) : exec (.rla m) s = execRla m s := rfl
@[simp] theorem exec_sre (m : MemOperand) : exec (.sre m) s = execSre m s := rfl
@[simp] theorem exec_rra (m : MemOperand) : exec (.rra m) s = execRra m s := rfl
@[simp] theorem exec_sax (m : MemOperand) : exec (.sax m) s = execSax m s := rfl
@[simp] theorem exec_lax (m : MemOperand) : exec (.lax m) s = execLax m s := rfl
@[simp] theorem exec_dcp (m : MemOperand) : exec (.dcp m) s = execDcp m s := rfl
@[simp] theorem exec_isc (m : MemOperand) : exec (.isc m) s = execIsc m s := rfl
@[simp] theorem exec_anc (r : AncRow) (b : Byte) : exec (.anc r b) s = execAnc r b s := rfl
@[simp] theorem exec_alr (b : Byte) : exec (.alr b) s = execAlr b s := rfl
@[simp] theorem exec_arr (b : Byte) : exec (.arr b) s = execArr b s := rfl
@[simp] theorem exec_ane (b : Byte) : exec (.ane b) s = execAne b s := rfl
@[simp] theorem exec_lxa (b : Byte) : exec (.lxa b) s = execLxa b s := rfl
@[simp] theorem exec_sbx (b : Byte) : exec (.sbx b) s = execSbx b s := rfl
@[simp] theorem exec_sbcEB (b : Byte) : exec (.sbcEB b) s = execSbcEB b s := rfl
@[simp] theorem exec_sha (o : ShaOperand) : exec (.sha o) s = execSha o s := rfl
@[simp] theorem exec_shx (w : Word) : exec (.shx w) s = execShx w s := rfl
@[simp] theorem exec_shy (w : Word) : exec (.shy w) s = execShy w s := rfl
@[simp] theorem exec_tas (w : Word) : exec (.tas w) s = execTas w s := rfl
@[simp] theorem exec_las (w : Word) : exec (.las w) s = execLas w s := rfl

end Sys2Proof.Machine
end

