-- ==== Sys2Proof/Laws/Flags.lean ====
section
/-! SUPPORT. The status byte bit by bit, and the one-bit shifts as arithmetic. -/

namespace Sys2Proof.Machine

/-- The eight bits of a pushed status byte (R27). -/
theorem packP_bits (b : Bool) (f : Flags) (j : Fin 8) :
    (packP b f).getLsbD j = (![f.c, f.z, f.i, f.d, b, true, f.v, f.n] : Fin 8 → Bool) j := by
  obtain ⟨c, z, i, d, v, n⟩ := f
  revert b c z i d v n j
  decide

/-- What is pushed is pulled back, bits 4 and 5 apart (R27, R28). -/
theorem unpackP_packP (b : Bool) (f : Flags) : unpackP (packP b f) = f := by
  ext <;> [exact packP_bits b f 0; exact packP_bits b f 1; exact packP_bits b f 2; exact packP_bits b f 3;
    exact packP_bits b f 6; exact packP_bits b f 7]

theorem shiftLeft_value (v : Byte) : (shiftLeft v).value = BitVec.ofNat 8 (2 * v.toNat) := by
  apply BitVec.eq_of_toNat_eq; simp [shiftLeft]; omega

theorem shiftRight_value (v : Byte) : (shiftRight v).value = BitVec.ofNat 8 (v.toNat / 2) := by
  have := v.isLt
  apply BitVec.eq_of_toNat_eq; simp [shiftRight, Nat.shiftRight_eq_div_pow]; omega

/-- The instructions that change I one instruction before it acts (R345). -/
theorem delaysPoll_iff (i : Instr) : delaysPoll i = true ↔ i = .cli ∨ i = .sei ∨ i = .plp := by
  cases i <;> simp [delaysPoll]

end Sys2Proof.Machine
end

