-- ==== Sys2Proof/Laws/Operands.lean ====
section
/-! SUPPORT. What an operand access can do, said once each: a read changes the latch and the cycles, a store the
latch, the cycles and the byte at its address. -/

namespace Sys2Proof.Machine

/-- A zero-page pointer is two RAM bytes (R131, R132). -/
theorem zpPointer_eq (p : Byte) (s : State) :
    zpPointer p s =
      (cat (s.ram.read (p + 1).toNat) (s.ram.read p.toNat), s.setOpenBus (s.ram.read (p + 1).toNat)) := by
  unfold zpPointer
  simp only [memRead_fst, memRead_snd, busValue_zeroPage, State.setOpenBus_ram]
  rfl

/-- Computing an effective address leaves at most another latch. -/
theorem effAddr_snd (m : MemOperand) (s : State) : (effAddr m s).2 = s.setOpenBus (effAddr m s).2.openBus := by
  cases m <;> simp only [effAddr, zpPointer_eq] <;> rfl

/-- The effective address is the same in a state with the same index registers, RAM and latch. -/
theorem effAddr_fst_congr {s t : State} (m : MemOperand) (hx : t.x = s.x) (hy : t.y = s.y) (hr : t.ram = s.ram) :
    (effAddr m t).1 = (effAddr m s).1 := by
  cases m <;> simp [effAddr, zpPointer_eq, hx, hy, hr]

/-- The latch the pointer reads leave. -/
theorem effAddr_openBus_congr {s t : State} (m : MemOperand) (hx : t.x = s.x) (hr : t.ram = s.ram)
    (ho : t.openBus = s.openBus) : (effAddr m t).2.openBus = (effAddr m s).2.openBus := by
  cases m <;> simp [effAddr, zpPointer_eq, hx, hr, ho]

/-- The byte at an effective address, read after the pointer reads. -/
theorem busValue_effAddr (m : MemOperand) (s : State) :
    busValue (effAddr m s).1.addr (effAddr m s).2 = memValue m s := by
  unfold busValue memValue addressOf
  rw [effAddr_snd m s]
  rfl

/-- All a memory read can do (R136 kind R). -/
theorem readMem_eq (m : MemOperand) (s : State) :
    readMem m s =
      (memValue m s, (s.setOpenBus (memValue m s)).tick (readCycles m + (crossedPage m s).toNat)) := by
  unfold readMem
  simp only [memRead_fst, memRead_snd, busValue_effAddr]
  rw [effAddr_snd m s]
  rfl

/-- All an operand read can do (R136 kind R, R123). -/
theorem readSource_eq (o : Source) (s : State) :
    readSource o s = (operandValue o s, (s.setOpenBus (operandLatch o s)).tick (operandCycles o s)) := by
  cases o with
  | imm b => rfl
  | mem m => exact readMem_eq m s

/-- All a store can do (R136 kind W). -/
theorem writeMem_eq (m : MemOperand) (v : Byte) (s : State) :
    writeMem m v s = ((ownerWrite (addressOf m s) v s).setOpenBus v).tick (writeCycles m) := by
  unfold writeMem memWrite
  dsimp only
  rw [effAddr_snd m s, ownerWrite_eq, ownerWrite_eq]
  rfl

/-- All a read-modify-write of memory can do (R137). -/
theorem modifyMem_eq (m : MemOperand) (f : Byte → Byte) (s : State) :
    modifyMem m f s =
      (memValue m s,
        ((writeBack (addressOf m s) (memValue m s) (f (memValue m s)) s).setOpenBus (f (memValue m s))).tick
          (modifyCycles m)) := by
  unfold modifyMem memWrite writeBack
  simp only [memRead_fst, memRead_snd, busValue_effAddr]
  rw [effAddr_snd m s]
  simp only [ownerWrite_eq]
  rfl

/-- All a store of SHA, SHX, SHY and TAS can do (R310). -/
theorem writeHigh_eq (m : MemOperand) (r : Byte) (s : State) :
    writeHigh m r s =
      ((ownerWrite (highStoreAddr r (effAddr m s).1) (highStoreValue r (effAddr m s).1) s).setOpenBus
        (highStoreValue r (effAddr m s).1)).tick (writeCycles m) := by
  unfold writeHigh memWrite
  dsimp only
  rw [effAddr_snd m s, ownerWrite_eq, ownerWrite_eq]
  rfl

/-- A double write leaves every other cell as it was. -/
theorem ownerRead_writeBack_other {a b : Word} (old new : Byte) (s : State) (h : busDecode b ≠ busDecode a) :
    ownerRead b (writeBack a old new s) = ownerRead b s := by
  unfold writeBack
  rw [ownerRead_ownerWrite_other _ _ h, ownerRead_ownerWrite_other _ _ h]

section
variable (a : Word) (old new : Byte) (s : State)
@[simp] theorem writeBack_a : (writeBack a old new s).a = s.a := by simp [writeBack]
@[simp] theorem writeBack_x : (writeBack a old new s).x = s.x := by simp [writeBack]
@[simp] theorem writeBack_y : (writeBack a old new s).y = s.y := by simp [writeBack]
@[simp] theorem writeBack_sp : (writeBack a old new s).sp = s.sp := by simp [writeBack]
@[simp] theorem writeBack_pc : (writeBack a old new s).pc = s.pc := by simp [writeBack]
@[simp] theorem writeBack_flags : (writeBack a old new s).flags = s.flags := by simp [writeBack]
@[simp] theorem writeBack_nmiPending : (writeBack a old new s).nmiPending = s.nmiPending := by simp [writeBack]
@[simp] theorem writeBack_irqLine : (writeBack a old new s).irqLine = s.irqLine := by simp [writeBack]
@[simp] theorem writeBack_irqPollMask : (writeBack a old new s).irqPollMask = s.irqPollMask := by simp [writeBack]
@[simp] theorem writeBack_jammed : (writeBack a old new s).jammed = s.jammed := by simp [writeBack]
@[simp] theorem writeBack_openBus : (writeBack a old new s).openBus = s.openBus := by simp [writeBack]
@[simp] theorem writeBack_cart : (writeBack a old new s).cart = s.cart := by simp [writeBack]
@[simp] theorem writeBack_cycles : (writeBack a old new s).cycles = s.cycles := by simp [writeBack]
end

/-- What JMP's pointer reads do (R130). -/
theorem jumpPointer_eq (w : Word) (s : State) :
    jumpPointer w s =
      (let l := busValue w s
       let h := busValue (cat (hiByte w) (loByte w + 1)) (s.setOpenBus l)
       (cat h l, s.setOpenBus h)) := rfl

end Sys2Proof.Machine
end

