-- ==== Sys2Proof/Laws/Interrupts.lean ====
section
/-! SUPPORT. What taking an interrupt, returning from one, and one step can do. -/

namespace Sys2Proof.Machine

/-- Pushing a word writes two stack bytes (R73). -/
theorem pushWord_eq (w : Word) (s : State) :
    pushWord w s =
      ((ownerWrite (stackAddr (s.sp - 1)) (loByte w) (ownerWrite (stackAddr s.sp) (hiByte w) s)).setOpenBus
        (loByte w)).setSp (s.sp - 2) := by
  have h : s.sp - 1 - 1 = s.sp - 2 := by bv_omega
  simp only [pushWord, push_eq, State.setSp_sp, ownerWrite_eq, h]
  rfl

/-- Pulling a word reads two stack bytes (R252, R263). -/
theorem pullWord_eq (s : State) :
    pullWord s =
      (cat (stackByte (s.sp + 2) s) (stackByte (s.sp + 1) s),
        (s.setSp (s.sp + 2)).setOpenBus (stackByte (s.sp + 2) s)) := by
  have h : s.sp + 1 + 1 = s.sp + 2 := by bv_omega
  simp only [pullWord, pull_eq, State.setOpenBus_sp, State.setSp_sp, h]
  rfl

/-- Reading a vector reads two PRG bytes (R77). -/
theorem readWord_prg {v : Word} (hlo : 0x8000 ≤ v.toNat) (hhi : v.toNat < 0xFFFF) (s : State) :
    readWord v s = (cat (prgByte (v.toNat + 1) s) (prgByte v.toNat s), s.setOpenBus (prgByte (v.toNat + 1) s)) := by
  have h1 : (v + 1).toNat = v.toNat + 1 := by
    rw [BitVec.toNat_add]; simp; omega
  have e1 := busValue_prg hlo s
  have e2 : ∀ b, busValue (v + 1) (s.setOpenBus b) = prgByte (v.toNat + 1) s := fun b => by
    rw [busValue_prg (by omega), h1]; rfl
  unfold readWord
  simp only [memRead_fst, memRead_snd, e1, e2]
  rfl

/-- The interrupt frame changes RAM and nothing else. -/
theorem frameWritten_eq (b : Bool) (s : State) : frameWritten b s = s.setRam (frameWritten b s).ram := by
  simp only [frameWritten, ownerWrite_eq]
  rfl

/-- All that taking an interrupt can do (R346, R262), for a vector in PRG. -/
theorem takeInterrupt_eq {v : Word} (hlo : 0x8000 ≤ v.toNat) (hhi : v.toNat < 0xFFFF) (b : Bool) (s : State) :
    takeInterrupt v b s =
      { frameWritten b s with
        sp := s.sp - 3, flags := { s.flags with i := true }, openBus := prgByte (v.toNat + 1) s
        pc := cat (prgByte (v.toNat + 1) s) (prgByte v.toNat s) } := by
  have h : s.sp - 2#8 - 1#8 = s.sp - 3#8 := by bv_omega
  unfold takeInterrupt
  simp only [readWord_prg hlo hhi, pushWord_eq, push_eq]
  ext1 <;> simp [frameWritten, ownerWrite_eq, prgByte, h]

/-- Reading the three bytes of an interrupt frame back (R70, R346). -/
theorem stackByte_frameWritten (b : Bool) (s : State) (hwf : s.ram.wf = true) :
    stackByte s.sp (frameWritten b s) = hiByte s.pc ∧
    stackByte (s.sp - 1) (frameWritten b s) = loByte s.pc ∧
    stackByte (s.sp - 2) (frameWritten b s) = packP b s.flags := by
  have w1 : (ownerWrite (stackAddr s.sp) (hiByte s.pc) s).ram.wf = true := by
    simp [ownerWrite_eq, Memory.write_keeps_wf _ _ _ hwf]
  have w2 : (ownerWrite (stackAddr (s.sp - 1)) (loByte s.pc)
      (ownerWrite (stackAddr s.sp) (hiByte s.pc) s)).ram.wf = true := by
    rw [ownerWrite_eq]; simp [Memory.write_keeps_wf _ _ _ w1]
  have n01 : s.sp ≠ s.sp - 1 := by bv_omega
  have n02 : s.sp ≠ s.sp - 2 := by bv_omega
  have n12 : s.sp - 1 ≠ s.sp - 2 := by bv_omega
  unfold frameWritten
  refine ⟨?_, ?_, stackByte_ownerWrite_same _ _ _ w2⟩
  · rw [stackByte_ownerWrite_other _ _ n02, stackByte_ownerWrite_other _ _ n01, stackByte_ownerWrite_same _ _ _ hwf]
  · rw [stackByte_ownerWrite_other _ _ n12, stackByte_ownerWrite_same _ _ _ w1]

/-- All that a return from interrupt can do (R263). -/
theorem returnFromInterrupt_eq (s : State) :
    returnFromInterrupt s =
      { s with
        sp := s.sp + 3, flags := unpackP (stackByte (s.sp + 1) s)
        pc := cat (stackByte (s.sp + 3) s) (stackByte (s.sp + 2) s), openBus := stackByte (s.sp + 3) s } := by
  have h2 : s.sp + 1 + 1 = s.sp + 2 := by bv_omega
  have h3 : s.sp + 1 + 2 = s.sp + 3 := by bv_omega
  simp only [returnFromInterrupt, pullWord_eq, pull_eq, State.setFlags_sp, State.setOpenBus_sp, State.setSp_sp, h2, h3]
  rfl

/-- What happens at a boundary, one case each (R341, R349, R353). -/
theorem boundary_cases (s : State) :
    (s.jammed = true ∧ boundary s = some (jammedStep s)) ∨
    (s.jammed = false ∧ s.nmiPending = true ∧ boundary s = some (nmiEntry s)) ∨
    (s.jammed = false ∧ s.nmiPending = false ∧ s.irqLine = true ∧ s.irqPollMask = false ∧
      boundary s = some (irqEntry s)) ∨
    (s.Quiet ∧ boundary s = none) := by
  unfold boundary State.Quiet
  cases s.jammed <;> cases s.nmiPending <;> cases s.irqLine <;> cases s.irqPollMask <;> simp

/-- A quiet state has nothing to do but an instruction. -/
theorem boundary_quiet {s : State} (h : s.Quiet) : boundary s = none := by
  obtain ⟨hj, hn, hq⟩ := h
  unfold boundary
  rcases hq with e | e <;> simp [hj, hn, e]

/-- All that one step can do: one case of R341 each. -/
theorem step_cases {s t : State} (h : step s = .next t) :
    (s.jammed = true ∧ t = jammedStep s) ∨
    (s.jammed = false ∧ s.nmiPending = true ∧ t = nmiEntry s) ∨
    (s.jammed = false ∧ s.nmiPending = false ∧ s.irqLine = true ∧ s.irqPollMask = false ∧ t = irqEntry s) ∨
    (s.Quiet ∧ ∃ u, exec (fetchInstr s).1 (fetchInstr s).2 = .next u ∧ t = retire (fetchInstr s).1 s u) := by
  unfold step at h
  rcases boundary_cases s with ⟨hj, hb⟩ | ⟨hj, hn, hb⟩ | ⟨hj, hn, hi, hm, hb⟩ | ⟨hq, hb⟩ <;> rw [hb] at h
  · cases h; exact .inl ⟨hj, rfl⟩
  · cases h; exact .inr (.inl ⟨hj, hn, rfl⟩)
  · cases h; exact .inr (.inr (.inl ⟨hj, hn, hi, hm, rfl⟩))
  · refine .inr (.inr (.inr ⟨hq, ?_⟩))
    cases he : exec (fetchInstr s).1 (fetchInstr s).2 with
    | next u => simp only [he] at h; cases h; exact ⟨u, rfl, rfl⟩
    | fault r => exact r.rec
    | refused r => simp [he] at h

/-- A quiet step runs the instruction it fetches (R341). -/
theorem step_quiet {s : State} (h : s.Quiet) :
    step s =
      match exec (fetchInstr s).1 (fetchInstr s).2 with
      | .next t => .next (retire (fetchInstr s).1 s t)
      | .fault r => .fault r
      | .refused r => .refused r := by
  unfold step
  simp only [boundary_quiet h] <;> rfl

end Sys2Proof.Machine
end

