-- ==== Sys2Proof/Laws/PerInstr.lean ====
section
/-! SUPPORT. Statements made per instruction, one lemma a constructor. -/

namespace Sys2Proof.Laws.FormsHaveRows

/-- 30_encoding.md R90, R95: a term is well formed exactly when the opcode table has a row for it, and then its bytes
are as many as that row says. -/
def Statement (i : Instr) : Prop :=
  (i.wellFormed = true ↔ opcodeOf i ≠ none) ∧ ∀ op, opcodeOf i = some op → i.length = (descriptor op).length

/-- An instruction that has a row. -/
theorem of_row {i : Instr} {op : Byte} (hw : i.wellFormed = true) (h : opcodeOf i = some op)
    (hl : i.length = (descriptor op).length) : Statement i :=
  ⟨⟨fun _ e => (nomatch h.symm.trans e), fun _ => hw⟩, fun _ h' => Option.some.inj (h.symm.trans h') ▸ hl⟩

/-- A term that has none. -/
theorem of_no_row {i : Instr} (hw : i.wellFormed = false) (h : opcodeOf i = none) : Statement i :=
  ⟨⟨fun e => (nomatch hw.symm.trans e), fun e => absurd h e⟩, fun _ h' => nomatch h.symm.trans h'⟩

theorem lda (o : Source) : Statement (.lda o) := by
  cases o with
  | imm => exact of_row rfl rfl rfl
  | mem m => cases m <;> first | exact of_row rfl rfl rfl | exact of_no_row rfl rfl
theorem ldx (o : Source) : Statement (.ldx o) := by
  cases o with
  | imm => exact of_row rfl rfl rfl
  | mem m => cases m <;> first | exact of_row rfl rfl rfl | exact of_no_row rfl rfl
theorem ldy (o : Source) : Statement (.ldy o) := by
  cases o with
  | imm => exact of_row rfl rfl rfl
  | mem m => cases m <;> first | exact of_row rfl rfl rfl | exact of_no_row rfl rfl
theorem sta (m : MemOperand) : Statement (.sta m) := by cases m <;> first | exact of_row rfl rfl rfl | exact of_no_row rfl rfl
theorem stx (m : MemOperand) : Statement (.stx m) := by cases m <;> first | exact of_row rfl rfl rfl | exact of_no_row rfl rfl
theorem sty (m : MemOperand) : Statement (.sty m) := by cases m <;> first | exact of_row rfl rfl rfl | exact of_no_row rfl rfl
theorem tax : Statement (.tax) := of_row rfl rfl rfl
theorem tay : Statement (.tay) := of_row rfl rfl rfl
theorem txa : Statement (.txa) := of_row rfl rfl rfl
theorem tya : Statement (.tya) := of_row rfl rfl rfl
theorem tsx : Statement (.tsx) := of_row rfl rfl rfl
theorem txs : Statement (.txs) := of_row rfl rfl rfl
theorem pha : Statement (.pha) := of_row rfl rfl rfl
theorem php : Statement (.php) := of_row rfl rfl rfl
theorem pla : Statement (.pla) := of_row rfl rfl rfl
theorem plp : Statement (.plp) := of_row rfl rfl rfl
theorem adc (o : Source) : Statement (.adc o) := by
  cases o with
  | imm => exact of_row rfl rfl rfl
  | mem m => cases m <;> first | exact of_row rfl rfl rfl | exact of_no_row rfl rfl
theorem sbc (o : Source) : Statement (.sbc o) := by
  cases o with
  | imm => exact of_row rfl rfl rfl
  | mem m => cases m <;> first | exact of_row rfl rfl rfl | exact of_no_row rfl rfl
theorem and (o : Source) : Statement (.and o) := by
  cases o with
  | imm => exact of_row rfl rfl rfl
  | mem m => cases m <;> first | exact of_row rfl rfl rfl | exact of_no_row rfl rfl
theorem ora (o : Source) : Statement (.ora o) := by
  cases o with
  | imm => exact of_row rfl rfl rfl
  | mem m => cases m <;> first | exact of_row rfl rfl rfl | exact of_no_row rfl rfl
theorem eor (o : Source) : Statement (.eor o) := by
  cases o with
  | imm => exact of_row rfl rfl rfl
  | mem m => cases m <;> first | exact of_row rfl rfl rfl | exact of_no_row rfl rfl
theorem cmp (o : Source) : Statement (.cmp o) := by
  cases o with
  | imm => exact of_row rfl rfl rfl
  | mem m => cases m <;> first | exact of_row rfl rfl rfl | exact of_no_row rfl rfl
theorem cpx (o : Source) : Statement (.cpx o) := by
  cases o with
  | imm => exact of_row rfl rfl rfl
  | mem m => cases m <;> first | exact of_row rfl rfl rfl | exact of_no_row rfl rfl
theorem cpy (o : Source) : Statement (.cpy o) := by
  cases o with
  | imm => exact of_row rfl rfl rfl
  | mem m => cases m <;> first | exact of_row rfl rfl rfl | exact of_no_row rfl rfl
theorem bit (m : MemOperand) : Statement (.bit m) := by cases m <;> first | exact of_row rfl rfl rfl | exact of_no_row rfl rfl
theorem inc (m : MemOperand) : Statement (.inc m) := by cases m <;> first | exact of_row rfl rfl rfl | exact of_no_row rfl rfl
theorem dec (m : MemOperand) : Statement (.dec m) := by cases m <;> first | exact of_row rfl rfl rfl | exact of_no_row rfl rfl
theorem inx : Statement (.inx) := of_row rfl rfl rfl
theorem iny : Statement (.iny) := of_row rfl rfl rfl
theorem dex : Statement (.dex) := of_row rfl rfl rfl
theorem dey : Statement (.dey) := of_row rfl rfl rfl
theorem asl (p : Place) : Statement (.asl p) := by
  cases p with
  | acc => exact of_row rfl rfl rfl
  | mem m => cases m <;> first | exact of_row rfl rfl rfl | exact of_no_row rfl rfl
theorem lsr (p : Place) : Statement (.lsr p) := by
  cases p with
  | acc => exact of_row rfl rfl rfl
  | mem m => cases m <;> first | exact of_row rfl rfl rfl | exact of_no_row rfl rfl
theorem rol (p : Place) : Statement (.rol p) := by
  cases p with
  | acc => exact of_row rfl rfl rfl
  | mem m => cases m <;> first | exact of_row rfl rfl rfl | exact of_no_row rfl rfl
theorem ror (p : Place) : Statement (.ror p) := by
  cases p with
  | acc => exact of_row rfl rfl rfl
  | mem m => cases m <;> first | exact of_row rfl rfl rfl | exact of_no_row rfl rfl
theorem jmpAbs (w : Word) : Statement (.jmpAbs w) := of_row rfl rfl rfl
theorem jmpInd (w : Word) : Statement (.jmpInd w) := of_row rfl rfl rfl
theorem jsr (w : Word) : Statement (.jsr w) := of_row rfl rfl rfl
theorem rts : Statement (.rts) := of_row rfl rfl rfl
theorem bcc (off : Byte) : Statement (.bcc off) := of_row rfl rfl rfl
theorem bcs (off : Byte) : Statement (.bcs off) := of_row rfl rfl rfl
theorem beq (off : Byte) : Statement (.beq off) := of_row rfl rfl rfl
theorem bne (off : Byte) : Statement (.bne off) := of_row rfl rfl rfl
theorem bmi (off : Byte) : Statement (.bmi off) := of_row rfl rfl rfl
theorem bpl (off : Byte) : Statement (.bpl off) := of_row rfl rfl rfl
theorem bvc (off : Byte) : Statement (.bvc off) := of_row rfl rfl rfl
theorem bvs (off : Byte) : Statement (.bvs off) := of_row rfl rfl rfl
theorem brk (pad : Byte) : Statement (.brk pad) := of_row rfl rfl rfl
theorem rti : Statement (.rti) := of_row rfl rfl rfl
theorem clc : Statement (.clc) := of_row rfl rfl rfl
theorem sec : Statement (.sec) := of_row rfl rfl rfl
theorem cli : Statement (.cli) := of_row rfl rfl rfl
theorem sei : Statement (.sei) := of_row rfl rfl rfl
theorem cld : Statement (.cld) := of_row rfl rfl rfl
theorem sed : Statement (.sed) := of_row rfl rfl rfl
theorem clv : Statement (.clv) := of_row rfl rfl rfl
theorem nop : Statement (.nop) := of_row rfl rfl rfl
theorem jam (r : JamRow) : Statement (.jam r) := by cases r <;> exact of_row rfl rfl rfl
theorem nopImplied (r : NopRow) : Statement (.nopImplied r) := by cases r <;> exact of_row rfl rfl rfl
theorem nopImm (r : NopImmRow) (b : Byte) : Statement (.nopImm r b) := by cases r <;> exact of_row rfl rfl rfl
theorem nopZp (r : NopZpRow) (a : Byte) : Statement (.nopZp r a) := by cases r <;> exact of_row rfl rfl rfl
theorem nopZpX (r : NopRow) (a : Byte) : Statement (.nopZpX r a) := by cases r <;> exact of_row rfl rfl rfl
theorem nopAbs (w : Word) : Statement (.nopAbs w) := of_row rfl rfl rfl
theorem nopAbsX (r : NopRow) (w : Word) : Statement (.nopAbsX r w) := by cases r <;> exact of_row rfl rfl rfl
theorem slo (m : MemOperand) : Statement (.slo m) := by cases m <;> first | exact of_row rfl rfl rfl | exact of_no_row rfl rfl
theorem rla (m : MemOperand) : Statement (.rla m) := by cases m <;> first | exact of_row rfl rfl rfl | exact of_no_row rfl rfl
theorem sre (m : MemOperand) : Statement (.sre m) := by cases m <;> first | exact of_row rfl rfl rfl | exact of_no_row rfl rfl
theorem rra (m : MemOperand) : Statement (.rra m) := by cases m <;> first | exact of_row rfl rfl rfl | exact of_no_row rfl rfl
theorem sax (m : MemOperand) : Statement (.sax m) := by cases m <;> first | exact of_row rfl rfl rfl | exact of_no_row rfl rfl
theorem lax (m : MemOperand) : Statement (.lax m) := by cases m <;> first | exact of_row rfl rfl rfl | exact of_no_row rfl rfl
theorem dcp (m : MemOperand) : Statement (.dcp m) := by cases m <;> first | exact of_row rfl rfl rfl | exact of_no_row rfl rfl
theorem isc (m : MemOperand) : Statement (.isc m) := by cases m <;> first | exact of_row rfl rfl rfl | exact of_no_row rfl rfl
theorem anc (r : AncRow) (b : Byte) : Statement (.anc r b) := by cases r <;> exact of_row rfl rfl rfl
theorem alr (b : Byte) : Statement (.alr b) := of_row rfl rfl rfl
theorem arr (b : Byte) : Statement (.arr b) := of_row rfl rfl rfl
theorem ane (b : Byte) : Statement (.ane b) := of_row rfl rfl rfl
theorem lxa (b : Byte) : Statement (.lxa b) := of_row rfl rfl rfl
theorem sbx (b : Byte) : Statement (.sbx b) := of_row rfl rfl rfl
theorem sbcEB (b : Byte) : Statement (.sbcEB b) := of_row rfl rfl rfl
theorem sha (o : ShaOperand) : Statement (.sha o) := by cases o <;> exact of_row rfl rfl rfl
theorem shx (w : Word) : Statement (.shx w) := of_row rfl rfl rfl
theorem shy (w : Word) : Statement (.shy w) := of_row rfl rfl rfl
theorem tas (w : Word) : Statement (.tas w) := of_row rfl rfl rfl
theorem las (w : Word) : Statement (.las w) := of_row rfl rfl rfl

end Sys2Proof.Laws.FormsHaveRows
end

