-- ==== Sys2Proof/Tests/Slice0.lean ====
section
/-! SUPPORT. Tests. Expected values come from the spec: words from the table of 30_encoding.md R96, results from the
vectors of 95_test_vectors.md (each test names the rule of its row), and a witness for the hypotheses of every
statement that has some. -/

namespace Sys2Proof.Tests

open Sys2Proof Sys2Proof.Machine

/-! ### What WellFormed refuses -/

theorem test_wf_general : (Instr.lda (.mem (.zpY 0))).wellFormed = false := by decide
theorem test_wf_yform : (Instr.ldx (.mem (.zpX 0))).wellFormed = false := by decide
theorem test_wf_xform : (Instr.ldy (.mem (.absY 0))).wellFormed = false := by decide
theorem test_wf_place : (Instr.asl (.mem (.indX 0))).wellFormed = false := by decide
theorem test_wf_plain : (Instr.cpx (.mem (.zpX 0))).wellFormed = false := by decide
theorem test_wf_sta : (Instr.sta (.zpY 0)).wellFormed = false := by decide
theorem test_wf_stx : (Instr.stx (.absY 0)).wellFormed = false := by decide
theorem test_wf_sty : (Instr.sty (.absX 0)).wellFormed = false := by decide
theorem test_wf_bit : (Instr.bit (.indY 0)).wellFormed = false := by decide
theorem test_wf_inc : (Instr.inc (.indX 0)).wellFormed = false := by decide
theorem test_wf_slo : (Instr.slo (.zpY 0)).wellFormed = false := by decide
theorem test_wf_sax : (Instr.sax (.absY 0)).wellFormed = false := by decide
theorem test_wf_lax : (Instr.lax (.zpX 0)).wellFormed = false := by decide
theorem test_image_size : (CartridgeImage.mk [0xEA] [] 0 0).check = some .prgSize := by decide
theorem test_image_mapper : (CartridgeImage.mk (List.replicate 32768 0xEA) [] 0 1).check = some .mapperId := by
  unfold CartridgeImage.check; rw [List.length_replicate]; decide
theorem test_image_good : (CartridgeImage.mk (List.replicate 16384 0xEA) [] 0 0).check = none := by
  unfold CartridgeImage.check; rw [List.length_replicate]; decide
theorem test_decode_empty : (decode []).toOption = none := by decide
theorem test_decode_short : (decode [0x4C, 0x00]).toOption = none := by decide

/-! ### Decoding: every row of the table -/

/-- Every listed word, of so many bits, decodes to its instruction. -/
def rowsDecode (rows : List (Nat × Nat × Instr)) : Bool :=
  rows.all fun r => decodeTableWord r.1 r.2.1 == some r.2.2

/-- The words `$0x` row: 30encoding.md R96, operand bytes $34 $12, first byte lowest (R91, table numbering). -/
theorem test_decode_row_0 : rowsDecode [
  (16, 0x3400, .brk 0x34),
  (16, 0x3401, .ora (.mem (.indX 0x34))),
  (8, 0x02, .jam .r0),
  (16, 0x3403, .slo (.indX 0x34)),
  (16, 0x3404, .nopZp .r0 0x34),
  (16, 0x3405, .ora (.mem (.zp 0x34))),
  (16, 0x3406, .asl (.mem (.zp 0x34))),
  (16, 0x3407, .slo (.zp 0x34)),
  (8, 0x08, .php),
  (16, 0x3409, .ora (.imm 0x34)),
  (8, 0x0A, .asl .acc),
  (16, 0x340B, .anc .r0 0x34),
  (24, 0x12340C, .nopAbs 0x1234),
  (24, 0x12340D, .ora (.mem (.abs 0x1234))),
  (24, 0x12340E, .asl (.mem (.abs 0x1234))),
  (24, 0x12340F, .slo (.abs 0x1234))] = true := by
  decide

/-- The words `$1x` row: 30encoding.md R96, operand bytes $34 $12, first byte lowest (R91, table numbering). -/
theorem test_decode_row_1 : rowsDecode [
  (16, 0x3410, .bpl 0x34),
  (16, 0x3411, .ora (.mem (.indY 0x34))),
  (8, 0x12, .jam .r1),
  (16, 0x3413, .slo (.indY 0x34)),
  (16, 0x3414, .nopZpX .r1 0x34),
  (16, 0x3415, .ora (.mem (.zpX 0x34))),
  (16, 0x3416, .asl (.mem (.zpX 0x34))),
  (16, 0x3417, .slo (.zpX 0x34)),
  (8, 0x18, .clc),
  (24, 0x123419, .ora (.mem (.absY 0x1234))),
  (8, 0x1A, .nopImplied .r1),
  (24, 0x12341B, .slo (.absY 0x1234)),
  (24, 0x12341C, .nopAbsX .r1 0x1234),
  (24, 0x12341D, .ora (.mem (.absX 0x1234))),
  (24, 0x12341E, .asl (.mem (.absX 0x1234))),
  (24, 0x12341F, .slo (.absX 0x1234))] = true := by
  decide

/-- The words `$2x` row: 30encoding.md R96, operand bytes $34 $12, first byte lowest (R91, table numbering). -/
theorem test_decode_row_2 : rowsDecode [
  (24, 0x123420, .jsr 0x1234),
  (16, 0x3421, .and (.mem (.indX 0x34))),
  (8, 0x22, .jam .r2),
  (16, 0x3423, .rla (.indX 0x34)),
  (16, 0x3424, .bit (.zp 0x34)),
  (16, 0x3425, .and (.mem (.zp 0x34))),
  (16, 0x3426, .rol (.mem (.zp 0x34))),
  (16, 0x3427, .rla (.zp 0x34)),
  (8, 0x28, .plp),
  (16, 0x3429, .and (.imm 0x34)),
  (8, 0x2A, .rol .acc),
  (16, 0x342B, .anc .r2 0x34),
  (24, 0x12342C, .bit (.abs 0x1234)),
  (24, 0x12342D, .and (.mem (.abs 0x1234))),
  (24, 0x12342E, .rol (.mem (.abs 0x1234))),
  (24, 0x12342F, .rla (.abs 0x1234))] = true := by
  decide

/-- The words `$3x` row: 30encoding.md R96, operand bytes $34 $12, first byte lowest (R91, table numbering). -/
theorem test_decode_row_3 : rowsDecode [
  (16, 0x3430, .bmi 0x34),
  (16, 0x3431, .and (.mem (.indY 0x34))),
  (8, 0x32, .jam .r3),
  (16, 0x3433, .rla (.indY 0x34)),
  (16, 0x3434, .nopZpX .r3 0x34),
  (16, 0x3435, .and (.mem (.zpX 0x34))),
  (16, 0x3436, .rol (.mem (.zpX 0x34))),
  (16, 0x3437, .rla (.zpX 0x34)),
  (8, 0x38, .sec),
  (24, 0x123439, .and (.mem (.absY 0x1234))),
  (8, 0x3A, .nopImplied .r3),
  (24, 0x12343B, .rla (.absY 0x1234)),
  (24, 0x12343C, .nopAbsX .r3 0x1234),
  (24, 0x12343D, .and (.mem (.absX 0x1234))),
  (24, 0x12343E, .rol (.mem (.absX 0x1234))),
  (24, 0x12343F, .rla (.absX 0x1234))] = true := by
  decide

/-- The words `$4x` row: 30encoding.md R96, operand bytes $34 $12, first byte lowest (R91, table numbering). -/
theorem test_decode_row_4 : rowsDecode [
  (8, 0x40, .rti),
  (16, 0x3441, .eor (.mem (.indX 0x34))),
  (8, 0x42, .jam .r4),
  (16, 0x3443, .sre (.indX 0x34)),
  (16, 0x3444, .nopZp .r4 0x34),
  (16, 0x3445, .eor (.mem (.zp 0x34))),
  (16, 0x3446, .lsr (.mem (.zp 0x34))),
  (16, 0x3447, .sre (.zp 0x34)),
  (8, 0x48, .pha),
  (16, 0x3449, .eor (.imm 0x34)),
  (8, 0x4A, .lsr .acc),
  (16, 0x344B, .alr 0x34),
  (24, 0x12344C, .jmpAbs 0x1234),
  (24, 0x12344D, .eor (.mem (.abs 0x1234))),
  (24, 0x12344E, .lsr (.mem (.abs 0x1234))),
  (24, 0x12344F, .sre (.abs 0x1234))] = true := by
  decide

/-- The words `$5x` row: 30encoding.md R96, operand bytes $34 $12, first byte lowest (R91, table numbering). -/
theorem test_decode_row_5 : rowsDecode [
  (16, 0x3450, .bvc 0x34),
  (16, 0x3451, .eor (.mem (.indY 0x34))),
  (8, 0x52, .jam .r5),
  (16, 0x3453, .sre (.indY 0x34)),
  (16, 0x3454, .nopZpX .r5 0x34),
  (16, 0x3455, .eor (.mem (.zpX 0x34))),
  (16, 0x3456, .lsr (.mem (.zpX 0x34))),
  (16, 0x3457, .sre (.zpX 0x34)),
  (8, 0x58, .cli),
  (24, 0x123459, .eor (.mem (.absY 0x1234))),
  (8, 0x5A, .nopImplied .r5),
  (24, 0x12345B, .sre (.absY 0x1234)),
  (24, 0x12345C, .nopAbsX .r5 0x1234),
  (24, 0x12345D, .eor (.mem (.absX 0x1234))),
  (24, 0x12345E, .lsr (.mem (.absX 0x1234))),
  (24, 0x12345F, .sre (.absX 0x1234))] = true := by
  decide

/-- The words `$6x` row: 30encoding.md R96, operand bytes $34 $12, first byte lowest (R91, table numbering). -/
theorem test_decode_row_6 : rowsDecode [
  (8, 0x60, .rts),
  (16, 0x3461, .adc (.mem (.indX 0x34))),
  (8, 0x62, .jam .r6),
  (16, 0x3463, .rra (.indX 0x34)),
  (16, 0x3464, .nopZp .r6 0x34),
  (16, 0x3465, .adc (.mem (.zp 0x34))),
  (16, 0x3466, .ror (.mem (.zp 0x34))),
  (16, 0x3467, .rra (.zp 0x34)),
  (8, 0x68, .pla),
  (16, 0x3469, .adc (.imm 0x34)),
  (8, 0x6A, .ror .acc),
  (16, 0x346B, .arr 0x34),
  (24, 0x12346C, .jmpInd 0x1234),
  (24, 0x12346D, .adc (.mem (.abs 0x1234))),
  (24, 0x12346E, .ror (.mem (.abs 0x1234))),
  (24, 0x12346F, .rra (.abs 0x1234))] = true := by
  decide

/-- The words `$7x` row: 30encoding.md R96, operand bytes $34 $12, first byte lowest (R91, table numbering). -/
theorem test_decode_row_7 : rowsDecode [
  (16, 0x3470, .bvs 0x34),
  (16, 0x3471, .adc (.mem (.indY 0x34))),
  (8, 0x72, .jam .r7),
  (16, 0x3473, .rra (.indY 0x34)),
  (16, 0x3474, .nopZpX .r7 0x34),
  (16, 0x3475, .adc (.mem (.zpX 0x34))),
  (16, 0x3476, .ror (.mem (.zpX 0x34))),
  (16, 0x3477, .rra (.zpX 0x34)),
  (8, 0x78, .sei),
  (24, 0x123479, .adc (.mem (.absY 0x1234))),
  (8, 0x7A, .nopImplied .r7),
  (24, 0x12347B, .rra (.absY 0x1234)),
  (24, 0x12347C, .nopAbsX .r7 0x1234),
  (24, 0x12347D, .adc (.mem (.absX 0x1234))),
  (24, 0x12347E, .ror (.mem (.absX 0x1234))),
  (24, 0x12347F, .rra (.absX 0x1234))] = true := by
  decide

/-- The words `$8x` row: 30encoding.md R96, operand bytes $34 $12, first byte lowest (R91, table numbering). -/
theorem test_decode_row_8 : rowsDecode [
  (16, 0x3480, .nopImm .o80 0x34),
  (16, 0x3481, .sta (.indX 0x34)),
  (16, 0x3482, .nopImm .o82 0x34),
  (16, 0x3483, .sax (.indX 0x34)),
  (16, 0x3484, .sty (.zp 0x34)),
  (16, 0x3485, .sta (.zp 0x34)),
  (16, 0x3486, .stx (.zp 0x34)),
  (16, 0x3487, .sax (.zp 0x34)),
  (8, 0x88, .dey),
  (16, 0x3489, .nopImm .o89 0x34),
  (8, 0x8A, .txa),
  (16, 0x348B, .ane 0x34),
  (24, 0x12348C, .sty (.abs 0x1234)),
  (24, 0x12348D, .sta (.abs 0x1234)),
  (24, 0x12348E, .stx (.abs 0x1234)),
  (24, 0x12348F, .sax (.abs 0x1234))] = true := by
  decide

/-- The words `$9x` row: 30encoding.md R96, operand bytes $34 $12, first byte lowest (R91, table numbering). -/
theorem test_decode_row_9 : rowsDecode [
  (16, 0x3490, .bcc 0x34),
  (16, 0x3491, .sta (.indY 0x34)),
  (8, 0x92, .jam .r9),
  (16, 0x3493, .sha (.indY 0x34)),
  (16, 0x3494, .sty (.zpX 0x34)),
  (16, 0x3495, .sta (.zpX 0x34)),
  (16, 0x3496, .stx (.zpY 0x34)),
  (16, 0x3497, .sax (.zpY 0x34)),
  (8, 0x98, .tya),
  (24, 0x123499, .sta (.absY 0x1234)),
  (8, 0x9A, .txs),
  (24, 0x12349B, .tas 0x1234),
  (24, 0x12349C, .shy 0x1234),
  (24, 0x12349D, .sta (.absX 0x1234)),
  (24, 0x12349E, .shx 0x1234),
  (24, 0x12349F, .sha (.absY 0x1234))] = true := by
  decide

/-- The words `$Ax` row: 30encoding.md R96, operand bytes $34 $12, first byte lowest (R91, table numbering). -/
theorem test_decode_row_A : rowsDecode [
  (16, 0x34A0, .ldy (.imm 0x34)),
  (16, 0x34A1, .lda (.mem (.indX 0x34))),
  (16, 0x34A2, .ldx (.imm 0x34)),
  (16, 0x34A3, .lax (.indX 0x34)),
  (16, 0x34A4, .ldy (.mem (.zp 0x34))),
  (16, 0x34A5, .lda (.mem (.zp 0x34))),
  (16, 0x34A6, .ldx (.mem (.zp 0x34))),
  (16, 0x34A7, .lax (.zp 0x34)),
  (8, 0xA8, .tay),
  (16, 0x34A9, .lda (.imm 0x34)),
  (8, 0xAA, .tax),
  (16, 0x34AB, .lxa 0x34),
  (24, 0x1234AC, .ldy (.mem (.abs 0x1234))),
  (24, 0x1234AD, .lda (.mem (.abs 0x1234))),
  (24, 0x1234AE, .ldx (.mem (.abs 0x1234))),
  (24, 0x1234AF, .lax (.abs 0x1234))] = true := by
  decide

/-- The words `$Bx` row: 30encoding.md R96, operand bytes $34 $12, first byte lowest (R91, table numbering). -/
theorem test_decode_row_B : rowsDecode [
  (16, 0x34B0, .bcs 0x34),
  (16, 0x34B1, .lda (.mem (.indY 0x34))),
  (8, 0xB2, .jam .rB),
  (16, 0x34B3, .lax (.indY 0x34)),
  (16, 0x34B4, .ldy (.mem (.zpX 0x34))),
  (16, 0x34B5, .lda (.mem (.zpX 0x34))),
  (16, 0x34B6, .ldx (.mem (.zpY 0x34))),
  (16, 0x34B7, .lax (.zpY 0x34)),
  (8, 0xB8, .clv),
  (24, 0x1234B9, .lda (.mem (.absY 0x1234))),
  (8, 0xBA, .tsx),
  (24, 0x1234BB, .las 0x1234),
  (24, 0x1234BC, .ldy (.mem (.absX 0x1234))),
  (24, 0x1234BD, .lda (.mem (.absX 0x1234))),
  (24, 0x1234BE, .ldx (.mem (.absY 0x1234))),
  (24, 0x1234BF, .lax (.absY 0x1234))] = true := by
  decide

/-- The words `$Cx` row: 30encoding.md R96, operand bytes $34 $12, first byte lowest (R91, table numbering). -/
theorem test_decode_row_C : rowsDecode [
  (16, 0x34C0, .cpy (.imm 0x34)),
  (16, 0x34C1, .cmp (.mem (.indX 0x34))),
  (16, 0x34C2, .nopImm .oC2 0x34),
  (16, 0x34C3, .dcp (.indX 0x34)),
  (16, 0x34C4, .cpy (.mem (.zp 0x34))),
  (16, 0x34C5, .cmp (.mem (.zp 0x34))),
  (16, 0x34C6, .dec (.zp 0x34)),
  (16, 0x34C7, .dcp (.zp 0x34)),
  (8, 0xC8, .iny),
  (16, 0x34C9, .cmp (.imm 0x34)),
  (8, 0xCA, .dex),
  (16, 0x34CB, .sbx 0x34),
  (24, 0x1234CC, .cpy (.mem (.abs 0x1234))),
  (24, 0x1234CD, .cmp (.mem (.abs 0x1234))),
  (24, 0x1234CE, .dec (.abs 0x1234)),
  (24, 0x1234CF, .dcp (.abs 0x1234))] = true := by
  decide

/-- The words `$Dx` row: 30encoding.md R96, operand bytes $34 $12, first byte lowest (R91, table numbering). -/
theorem test_decode_row_D : rowsDecode [
  (16, 0x34D0, .bne 0x34),
  (16, 0x34D1, .cmp (.mem (.indY 0x34))),
  (8, 0xD2, .jam .rD),
  (16, 0x34D3, .dcp (.indY 0x34)),
  (16, 0x34D4, .nopZpX .rD 0x34),
  (16, 0x34D5, .cmp (.mem (.zpX 0x34))),
  (16, 0x34D6, .dec (.zpX 0x34)),
  (16, 0x34D7, .dcp (.zpX 0x34)),
  (8, 0xD8, .cld),
  (24, 0x1234D9, .cmp (.mem (.absY 0x1234))),
  (8, 0xDA, .nopImplied .rD),
  (24, 0x1234DB, .dcp (.absY 0x1234)),
  (24, 0x1234DC, .nopAbsX .rD 0x1234),
  (24, 0x1234DD, .cmp (.mem (.absX 0x1234))),
  (24, 0x1234DE, .dec (.absX 0x1234)),
  (24, 0x1234DF, .dcp (.absX 0x1234))] = true := by
  decide

/-- The words `$Ex` row: 30encoding.md R96, operand bytes $34 $12, first byte lowest (R91, table numbering). -/
theorem test_decode_row_E : rowsDecode [
  (16, 0x34E0, .cpx (.imm 0x34)),
  (16, 0x34E1, .sbc (.mem (.indX 0x34))),
  (16, 0x34E2, .nopImm .oE2 0x34),
  (16, 0x34E3, .isc (.indX 0x34)),
  (16, 0x34E4, .cpx (.mem (.zp 0x34))),
  (16, 0x34E5, .sbc (.mem (.zp 0x34))),
  (16, 0x34E6, .inc (.zp 0x34)),
  (16, 0x34E7, .isc (.zp 0x34)),
  (8, 0xE8, .inx),
  (16, 0x34E9, .sbc (.imm 0x34)),
  (8, 0xEA, .nop),
  (16, 0x34EB, .sbcEB 0x34),
  (24, 0x1234EC, .cpx (.mem (.abs 0x1234))),
  (24, 0x1234ED, .sbc (.mem (.abs 0x1234))),
  (24, 0x1234EE, .inc (.abs 0x1234)),
  (24, 0x1234EF, .isc (.abs 0x1234))] = true := by
  decide

/-- The words `$Fx` row: 30encoding.md R96, operand bytes $34 $12, first byte lowest (R91, table numbering). -/
theorem test_decode_row_F : rowsDecode [
  (16, 0x34F0, .beq 0x34),
  (16, 0x34F1, .sbc (.mem (.indY 0x34))),
  (8, 0xF2, .jam .rF),
  (16, 0x34F3, .isc (.indY 0x34)),
  (16, 0x34F4, .nopZpX .rF 0x34),
  (16, 0x34F5, .sbc (.mem (.zpX 0x34))),
  (16, 0x34F6, .inc (.zpX 0x34)),
  (16, 0x34F7, .isc (.zpX 0x34)),
  (8, 0xF8, .sed),
  (24, 0x1234F9, .sbc (.mem (.absY 0x1234))),
  (8, 0xFA, .nopImplied .rF),
  (24, 0x1234FB, .isc (.absY 0x1234)),
  (24, 0x1234FC, .nopAbsX .rF 0x1234),
  (24, 0x1234FD, .sbc (.mem (.absX 0x1234))),
  (24, 0x1234FE, .inc (.absX 0x1234)),
  (24, 0x1234FF, .isc (.absX 0x1234))] = true := by
  decide

/-! ### One step each: vectors of 95_test_vectors.md -/

/-- The start of the vectors: reset state, code at $8000, vectors NMI $9100, Reset $8000, IRQ $9000. -/
def boot (code : List Byte) : State :=
  { State.reset with
    pc := 0x8000, openBus := 0x80
    cart := { Cartridge.blank with
      prg := Memory.ofBytesFrom 0 code ++ [(0x7FFB, 0x91), (0x7FFD, 0x80), (0x7FFF, 0x90)] } }

/-- The state after one step. -/
def after (s : State) : State :=
  match step s with
  | .next t => t
  | .fault _ => s
  | .refused _ => s

/-- The flags `NVDIZC` in the vectors' order. -/
def nvdizc (s : State) : List Bool := [s.flags.n, s.flags.v, s.flags.d, s.flags.i, s.flags.z, s.flags.c]

/-- E1. -/
theorem test_lda_imm :
    (let t := after (boot [0xA9, 0x45])
     t.a = 0x45 ∧ t.pc = 0x8002 ∧ nvdizc t = [false, false, false, true, false, false] ∧ t.cycles = 2) := by decide

/-- E1, its second step. -/
theorem test_sta_zp :
    (let t := after { boot [0x85, 0x00] with a := 0x45 }
     t.ram = [(0, 0x45)] ∧ t.pc = 0x8002 ∧ t.openBus = 0x45 ∧ t.cycles = 3) := by decide

/-- R55: the mirror of $0800 at $1800. -/
theorem test_lda_mirror :
    (let t := after { boot [0xAD, 0x00, 0x18] with ram := [(0, 0x5A)] }
     t.a = 0x5A ∧ t.pc = 0x8003 ∧ t.cycles = 4) := by decide

/-- R56: open bus, the operand's high byte. -/
theorem test_lda_open_bus : (after (boot [0xAD, 0x00, 0x40])).a = 0x40 := by decide

/-- R65: a write to ROM changes nothing there. -/
theorem test_sta_rom :
    (let s := { boot [0x8D, 0x00, 0x80] with a := 0x77 }
     (after s).cart = s.cart ∧ (after s).ram = [] ∧ (after s).openBus = 0x77) := by decide

/-- R129: `abs,Y` wraps past $FFFF. -/
theorem test_lda_absY_wrap :
    (let t := after { boot [0xB9, 0xFF, 0xFF] with y := 0x02, ram := [(1, 0x80)] }
     t.a = 0x80 ∧ t.flags.n = true ∧ t.cycles = 5) := by decide

/-- R125: `zp,X` wraps in the page. -/
theorem test_lda_zpX_wrap : (after { boot [0xB5, 0xF0] with x := 0x20, ram := [(0x10, 0x99)] }).a = 0x99 := by
  decide

/-- R126: `zp,Y` wraps in the page. -/
theorem test_ldx_zpY_wrap : (after { boot [0xB6, 0xFF] with y := 0x01, ram := [(0, 0x42)] }).x = 0x42 := by
  decide

/-- R131: the pointer's second byte wraps. -/
theorem test_lda_indX_wrap :
    (let t := after { boot [0xA1, 0xFE] with x := 0x01, ram := [(0, 0x02), (0xFF, 0x34), (0x234, 0x66)] }
     t.a = 0x66 ∧ t.cycles = 6) := by decide

/-- R132: the pointer's second byte wraps; the index crosses a page. -/
theorem test_lda_indY_wrap :
    (let t := after { boot [0xB1, 0xFF] with y := 0x10, ram := [(0, 0x01), (0xFF, 0xF8), (0x208, 0x55)] }
     t.a = 0x55 ∧ t.cycles = 6) := by decide

/-- R130: the high byte comes from the start of the page. -/
theorem test_jmp_indirect_page :
    (let t := after { boot [0x6C, 0xFF, 0x02] with ram := [(0x200, 0x90), (0x300, 0xA0)] }
     t.pc = 0x9000 ∧ t.cycles = 5) := by decide

/-- R135: a store has no page-cross penalty. -/
theorem test_sta_indY_cross :
    (let t := after { boot [0x91, 0x20] with a := 0x02, y := 0x20, ram := [(0x20, 0xF0), (0x21, 0x03)] }
     t.ram = [(0x20, 0xF0), (0x21, 0x03), (0x410, 0x02)] ∧ t.cycles = 6) := by decide

/-- R201: $FF wraps to $00. -/
theorem test_inc_zp :
    (let t := after { boot [0xE6, 0x10] with ram := [(0x10, 0xFF)] }
     t.ram = [] ∧ t.flags.z = true ∧ t.flags.n = false ∧ t.cycles = 5) := by decide

/-- R206. -/
theorem test_dey : (let t := after { boot [0x88] with y := 0x01 }; t.y = 0 ∧ t.flags.z = true) := by decide

/-- R161: no flag. -/
theorem test_txs :
    (let t := after { boot [0x9A] with x := 0x00, flags := ⟨false, false, true, false, false, true⟩ }
     t.sp = 0x00 ∧ t.flags.z = false ∧ t.flags.n = true) := by decide

/-- R72: a push at S = $00 wraps. -/
theorem test_pha_wrap :
    (let t := after { boot [0x48] with a := 0x11, sp := 0x00 }
     t.sp = 0xFF ∧ t.ram = [(0x100, 0x11)] ∧ t.cycles = 3) := by decide

/-- R181: bits 4 and 5 of the pushed status. -/
theorem test_php :
    (let t := after { boot [0x08] with flags := ⟨false, false, false, false, false, false⟩ }
     t.ram = [(0x1FD, 0x30)] ∧ t.sp = 0xFC) := by decide

/-- R182: a pull at S = $FF wraps. -/
theorem test_pla_wrap :
    (let t := after { boot [0x68] with sp := 0xFF, ram := [(0x100, 0x01)] }
     t.a = 0x01 ∧ t.sp = 0x00 ∧ t.cycles = 4) := by decide

/-- R183, R345: bits 4 and 5 ignored; the next IRQ check still uses the old I. -/
theorem test_plp :
    (let t := after { boot [0x28] with sp := 0xFC, ram := [(0x1FD, 0x30)] }
     nvdizc t = [false, false, false, false, false, false] ∧ t.irqPollMask = true) := by decide

/-- R192: overflow without carry. -/
theorem test_adc_overflow :
    (let t := after { boot [0x69, 0x50] with a := 0x50 }
     t.a = 0xA0 ∧ nvdizc t = [true, true, false, true, false, false]) := by decide

/-- R192: D is not read. -/
theorem test_adc_decimal :
    (let t := after { boot [0x69, 0x09] with a := 0x09, flags := ⟨false, false, true, true, false, false⟩ }
     t.a = 0x12 ∧ nvdizc t = [false, false, true, true, false, false]) := by decide

/-- R193: borrow in. -/
theorem test_sbc_borrow :
    (let t := after { boot [0xE9, 0x00] with a := 0x05 }
     t.a = 0x04 ∧ nvdizc t = [false, false, false, true, false, true]) := by decide

/-- R193: signed overflow. -/
theorem test_sbc_overflow :
    (let t := after { boot [0xE9, 0x01] with a := 0x80, flags := ⟨true, false, true, false, false, false⟩ }
     t.a = 0x7F ∧ nvdizc t = [false, true, false, true, false, true]) := by decide

/-- R197: an unsigned compare. -/
theorem test_cmp :
    (let t := after { boot [0xC9, 0x01] with a := 0x80 }
     t.a = 0x80 ∧ nvdizc t = [false, false, false, true, false, true]) := by decide

/-- R200. -/
theorem test_bit :
    (let t := after { boot [0x24, 0x10] with a := 0x01, ram := [(0x10, 0xC0)] }
     t.a = 0x01 ∧ nvdizc t = [true, true, false, true, true, false] ∧ t.cycles = 3) := by decide

/-- R232. -/
theorem test_rol_acc :
    (let t := after { boot [0x2A] with a := 0x40, flags := ⟨true, false, true, false, false, false⟩ }
     t.a = 0x81 ∧ nvdizc t = [true, false, false, true, false, false]) := by decide

/-- R233. -/
theorem test_ror_absX :
    (let t := after { boot [0x7E, 0x00, 0x03] with x := 0x01, ram := [(0x301, 0x03)] }
     t.ram = [(0x301, 0x01)] ∧ t.flags.c = true ∧ t.cycles = 7) := by decide

/-- R251. -/
theorem test_jsr :
    (let t := after (boot [0x20, 0x00, 0x90])
     t.pc = 0x9000 ∧ t.sp = 0xFB ∧ t.ram = [(0x1FC, 0x02), (0x1FD, 0x80)] ∧ t.openBus = 0x90 ∧ t.cycles = 6) := by
  decide

/-- R251, by hand: JSR standing in the stack page at $01FC, S = $FE. The pushes write $01FE = $01, the high operand
byte, and $01FD = $FE; the high byte read after them is $01. -/
theorem test_jsr_overwrites_itself :
    (after { boot [] with pc := 0x01FC, sp := 0xFE, ram := [(0x1FC, 0x20), (0x1FD, 0x34), (0x1FE, 0x90)] }).pc = 0x0134 := by
  decide

/-- R252: the pulled address plus one wraps. -/
theorem test_rts_wrap :
    (let t := after { boot [0x60] with sp := 0xFB, ram := [(0x1FC, 0xFF), (0x1FD, 0xFF)] }
     t.pc = 0x0000 ∧ t.sp = 0xFD ∧ t.cycles = 6) := by decide

/-- R253: a backward branch in its page, and one across pages. -/
theorem test_branches :
    (after (boot [0x10, 0xFE])).pc = 0x8000 ∧ (after (boot [0x10, 0xFE])).cycles = 3 ∧
    (after { boot [0x30, 0x80] with flags := ⟨false, false, true, false, false, true⟩ }).pc = 0x7F82 ∧
    (after { boot [0x30, 0x80] with flags := ⟨false, false, true, false, false, true⟩ }).cycles = 4 ∧
    (after (boot [0xF0, 0x02])).pc = 0x8002 := by decide

/-- E2, R262. -/
theorem test_brk :
    (let t := after { boot [0x00, 0xEA] with flags := ⟨true, false, false, false, false, false⟩ }
     t.pc = 0x9000 ∧ t.sp = 0xFA ∧ t.flags.i = true ∧ t.ram = [(0x1FB, 0x31), (0x1FC, 0x02), (0x1FD, 0x80)] ∧
     t.cycles = 7) := by decide

/-- R263. -/
theorem test_rti :
    (let t := after { boot [0x40] with sp := 0xFA, ram := [(0x1FB, 0xB1), (0x1FC, 0x02), (0x1FD, 0x80)] }
     t.pc = 0x8002 ∧ t.sp = 0xFD ∧ nvdizc t = [true, false, false, false, false, true] ∧ t.irqPollMask = false ∧
     t.cycles = 6) := by decide

/-- R266, R345. -/
theorem test_cli :
    (let t := after (assertIrq (boot [0x58])); t.pc = 0x8001 ∧ t.flags.i = false ∧ t.irqPollMask = true) := by
  decide

/-- E3, R346. -/
theorem test_nmi :
    (let t := after (assertNmi { boot [0xEA] with flags := ⟨true, false, false, false, false, false⟩ })
     t.pc = 0x9100 ∧ t.sp = 0xFA ∧ t.ram = [(0x1FB, 0x21), (0x1FD, 0x80)] ∧ t.nmiPending = false ∧ t.flags.i = true ∧
     t.cycles = 7) := by decide

/-- R344: taken, and masked. -/
theorem test_irq :
    (after (assertIrq { boot [0xEA] with flags := ⟨false, false, false, false, false, false⟩, irqPollMask := false })).pc =
      0x9000 ∧
    (after (assertIrq (boot [0xEA]))).pc = 0x8001 := by decide

/-- R349. -/
theorem test_nmi_before_irq :
    (after (assertNmi (assertIrq { boot [0xEA] with irqPollMask := false }))).pc = 0x9100 := by decide

/-- R291, R353. -/
theorem test_jam :
    (let t := after (boot [0x02]); t.pc = 0x8001 ∧ t.jammed = true ∧ t.cycles = 2 ∧
      (after (assertNmi t)).pc = 0x8001 ∧ (after (assertNmi t)).nmiPending = true ∧ (after (assertNmi t)).cycles = 3) := by
  decide

/-- R381: Reset over a jammed machine. -/
theorem test_reset_line :
    (let t := resetLine { boot [] with jammed := true, nmiPending := true, sp := 0x40, a := 0x12, pc := 0x1234 }
     t.pc = 0x8000 ∧ t.sp = 0xFD ∧ t.a = 0x12 ∧ t.flags.i = true ∧ t.jammed = false ∧ t.nmiPending = false ∧
     t.openBus = 0x80 ∧ t.cycles = 0) := by decide

/-- R294: the page cross of an undocumented NOP. -/
theorem test_nop_absX : (after { boot [0x1C, 0xF0, 0x12] with x := 0x20 }).cycles = 5 := by decide

/-- R298: the rotate's carry feeds the add. -/
theorem test_rra :
    (let t := after { boot [0x67, 0x10] with a := 0x10, ram := [(0x10, 0x03)] }
     t.a = 0x12 ∧ t.ram = [(0x10, 0x01)] ∧ t.flags.c = false) := by decide

/-- R301. -/
theorem test_dcp :
    (let t := after { boot [0xC7, 0x10] with a := 0x10, ram := [(0x10, 0x11)] }
     t.ram = [(0x10, 0x10)] ∧ nvdizc t = [false, false, false, true, true, true]) := by decide

/-- R302. -/
theorem test_isc :
    (let t := after { boot [0xE7, 0x10] with
       a := 0x20, ram := [(0x10, 0x0F)], flags := ⟨true, false, true, false, false, false⟩ }
     t.a = 0x10 ∧ t.ram = [(0x10, 0x10)] ∧ t.flags.c = true) := by decide

/-- R305. -/
theorem test_arr :
    (let t := after { boot [0x6B, 0xC0] with a := 0xFF }
     t.a = 0x60 ∧ nvdizc t = [false, false, false, true, false, true]) := by decide

/-- R308. -/
theorem test_sbx :
    (let t := after { boot [0xCB, 0x01] with a := 0x0F, x := 0xF0, flags := ⟨true, false, true, false, false, false⟩ }
     t.x = 0xFF ∧ nvdizc t = [true, false, false, true, false, false]) := by decide

/-- R312: on a page cross the stored value is the high byte of the address. -/
theorem test_shx_cross :
    (after { boot [0x9E, 0xF0, 0x02] with x := 0x01, y := 0x20 }).ram = [(0x110, 0x01)] := by decide

/-- R311. -/
theorem test_sha :
    (after { boot [0x9F, 0x00, 0x12] with a := 0xFF, x := 0xFF, y := 0x01 }).ram = [(0x201, 0x13)] := by decide

/-- R314. -/
theorem test_tas :
    (let t := after { boot [0x9B, 0x00, 0x02] with a := 0xF0, x := 0x3F, ram := [(0x200, 0x55)] }
     t.sp = 0x30 ∧ t.ram = []) := by decide

/-- R315. -/
theorem test_las :
    (let t := after { boot [0xBB, 0x00, 0x02] with ram := [(0x200, 0x0F)] }
     t.a = 0x0D ∧ t.x = 0x0D ∧ t.sp = 0x0D ∧ t.cycles = 4) := by decide

/-- R64: 16 KiB of PRG is mirrored at $C000. -/
theorem test_prg_mirror :
    prgByte 0xC001 { boot [0xA9, 0x45] with cart := { (boot [0xA9, 0x45]).cart with prgSize := .k16 } } = 0x45 := by
  decide

/-- The placed word runs as the first instruction after reset, and from an address where no program can stand. -/
theorem test_withFetchWord :
    (after (State.reset.withFetchWord 16 0x45A9)).a = 0x45 ∧
    (after ({ boot [] with pc := 0x4000, jammed := true, nmiPending := true }.withFetchWord 24 0x900020)).pc = 0x9000 := by
  decide

/-! ### Witnesses: the hypotheses of the statements can be met -/

/-- EveryAddressHasItsOwner, BusReadsDriveTheLatch and BusWritesReachOnlyRam: both ends of every range. -/
theorem test_witness_EveryAddressHasItsOwner :
    [0x0000, 0x1FFF, 0x2000, 0x3FFF, 0x4000, 0x4017, 0x4018, 0x401F, 0x4020, 0x7FFF, 0x8000, 0xFFFF].map busDecode =
      [.ram 0, .ram 0x7FF, .ppu 0, .ppu 7, .apuIo 0, .apuIo 0x17, .unused, .unused, .mapper 0x4020, .mapper 0x7FFF,
       .mapper 0x8000, .mapper 0xFFFF] := by decide

theorem test_witness_BusReadsDriveTheLatch :
    [0x1FFF, 0x2000, 0x7FFF, 0x8000].map (fun a => busValue a { boot [0xA9] with ram := [(0x7FF, 0x11)] }) =
      [0x11, 0x80, 0x80, 0xA9] := by decide

theorem test_witness_BusWritesReachOnlyRam :
    (boot []).Inv ∧ (memWrite 0x1FFF 0x5A (boot [])).ram = [(0x7FF, 0x5A)] ∧
    ownerRead 0x07FF (memWrite 0x1FFF 0x5A (boot [])) = some 0x5A ∧ (memWrite 0x2000 0x5A (boot [])).ram = [] := by
  unfold State.Inv; decide

theorem test_witness_PowerOnBuildsTheMachine :
    ∃ img : CartridgeImage, img.check = none ∧ ∃ t, powerOn img (Vector.replicate 2048 0xFF) = .next t :=
  ⟨_, test_image_good, by unfold powerOn; rw [test_image_good]; exact ⟨_, rfl⟩⟩

theorem test_witness_BadCartridgesBuildNoMachine :
    powerOn ⟨[0xEA], [], 0, 0⟩ (Vector.replicate 2048 0) = .refused .prgSizeUnsupported ∧
    powerOn ⟨List.replicate 32768 0xEA, [], 0, 1⟩ (Vector.replicate 2048 0) = .refused .mapperUnsupported := by
  unfold powerOn; rw [test_image_size, test_image_mapper]; exact ⟨rfl, rfl⟩

theorem test_witness_CanonicalMemoriesAreEqualData :
    Memory.wf [(3, 5)] = true ∧ Memory.wf (Memory.write [] 3 5) = true ∧ ∀ k, Memory.read [(3, 5)] k = (Memory.write [] 3 5).read k :=
  ⟨by decide, by decide, fun _ => rfl⟩

/-- PushAndPullUseThePageOneStack: both wraps, over a canonical RAM. -/
theorem test_witness_PushAndPullUseThePageOneStack :
    ({ boot [] with sp := 0x00 } : State).Inv ∧ (push 0x11 { boot [] with sp := 0x00 }).sp = 0xFF ∧
    stackByte 0x00 (push 0x11 { boot [] with sp := 0x00 }) = 0x11 ∧ (pull { boot [] with sp := 0xFF }).2.sp = 0x00 := by
  unfold State.Inv; decide

/-- PulledBytesAreThePushedBytesReversed: at its boundary length. -/
theorem test_witness_PulledBytesAreThePushedBytesReversed :
    (boot []).Inv ∧ (List.replicate 256 (0x5A : Byte)).length ≤ 256 :=
  ⟨by unfold State.Inv; decide, Nat.le_of_eq List.length_replicate⟩

theorem test_witness_DecodeOfEncodeIsTheInstruction :
    (Instr.lda (.mem (.absX 0x1234))).wellFormed = true ∧ encode (.lda (.mem (.absX 0x1234))) = [0xBD, 0x34, 0x12] := by
  decide

/-- StepRunsTheDecodedInstruction and PollMaskLagsOnlyAfterCliSeiPlp: a plain instruction, CLI and JSR. -/
theorem test_witness_StepRunsTheDecodedInstruction :
    (boot [0xA9, 0x45]).Quiet ∧ (decode (nextBytes (boot [0xA9, 0x45]))).toOption = some (.lda (.imm 0x45), [0x00]) ∧
    (decode (nextBytes (boot [0x58]))).toOption = some (.cli, [0x00, 0x00]) ∧
    (decode (nextBytes (boot [0x20, 0x00, 0x90]))).toOption = some (.jsr 0x9000, []) ∧
    (boot [0x20, 0x00, 0x90]).Quiet := by unfold State.Quiet; decide

theorem test_witness_PollMaskLagsOnlyAfterCliSeiPlp :
    (boot [0x58]).Quiet ∧ (∃ t, step (boot [0x58]) = .next t) ∧ (boot [0xEA]).Quiet ∧ ∃ t, step (boot [0xEA]) = .next t :=
  ⟨by unfold State.Quiet; decide, ⟨_, rfl⟩, by unfold State.Quiet; decide, ⟨_, rfl⟩⟩

theorem test_witness_FetchAdvancesPc : (fetch { boot [] with pc := 0xFFFF }).2.pc = 0x0000 := by decide

theorem test_witness_StepKeepsTheInvariant :
    (boot [0x48]).Inv ∧ (∃ t, step (boot [0x48]) = .next t) ∧ (after (boot [0x48])).Inv :=
  ⟨by unfold State.Inv; decide, ⟨_, rfl⟩, by unfold State.Inv; decide⟩

theorem test_witness_HostOperationsKeepTheInvariant :
    (boot []).Inv ∧ ∃ (img : CartridgeImage) (t : State), powerOn img (Vector.replicate 2048 0xFF) = .next t :=
  ⟨by unfold State.Inv; decide, _, by unfold powerOn; rw [test_image_good]; exact ⟨_, rfl⟩⟩

theorem test_witness_CartridgeIsImmutable : ∃ t, step (boot [0x8D, 0x00, 0x80]) = .next t := ⟨_, rfl⟩

/-- StepCyclesAreInRange: a jammed step and both ends of a branch. -/
theorem test_witness_StepCyclesAreInRange :
    (after { boot [] with jammed := true }).cycles = 1 ∧ (after (boot [0xF0, 0x02])).cycles = 2 ∧
    (after { boot [] with pc := 0x80FE, flags := ⟨false, true, true, false, false, false⟩,
                          cart := { Cartridge.blank with prg := [(0xFE, 0xF0), (0xFF, 0xFD)] } }).cycles = 4 ∧
    (after { boot [0x03, 0x00] with ram := [] }).cycles = 8 := by decide

/-- InstructionCyclesFollowTheTable, its first clause: R135's vectors without and with a page cross, a store that
crosses without the penalty, and a branch not taken, taken, and taken to another page. -/
theorem test_witness_InstructionCyclesFollowTheTable :
    opcodeOf (.lda (.mem (.absX 0x12F0))) = some 0xBD ∧
    instrCycles (.lda (.mem (.absX 0x12F0))) 0xBD { boot [] with x := 0x0F } = 4 ∧
    instrCycles (.lda (.mem (.absX 0x12F0))) 0xBD { boot [] with x := 0x20 } = 5 ∧
    instrCycles (.sta (.absX 0x12F0)) 0x9D { boot [] with x := 0x20 } = 5 ∧
    instrCycles (.beq 0x02) 0xF0 { boot [] with pc := 0x8002 } = 2 ∧
    instrCycles (.bne 0x02) 0xD0 { boot [] with pc := 0x8002 } = 3 ∧
    instrCycles (.bcc 0x7F) 0x90 { boot [] with pc := 0x80F2 } = 4 ∧
    (∃ t, exec (.lda (.mem (.absX 0x12F0))) (boot []) = .next t) :=
  ⟨rfl, by decide, by decide, by decide, by decide, by decide, by decide, _, rfl⟩

/-- Its clauses about a step: a quiet one, a jammed one, and both entries. -/
theorem test_witness_InstructionCyclesFollowTheTable_step :
    (boot [0xBD, 0xF0, 0x12]).Quiet ∧
    (decode (nextBytes (boot [0xBD, 0xF0, 0x12]))).toOption = some (.lda (.mem (.absX 0x12F0)), []) ∧
    (after { boot [0xBD, 0xF0, 0x12] with x := 0x20 }).cycles = 5 ∧
    (after { boot [] with jammed := true }).cycles = 1 ∧ (after (assertNmi (boot []))).cycles = 7 ∧
    (after (assertIrq { boot [] with irqPollMask := false })).cycles = 7 := by unfold State.Quiet; decide

theorem test_witness_JamHaltsTheMachineUntilReset :
    ({ boot [] with jammed := true, nmiPending := true } : State).jammed = true ∧
    (let t := after { boot [] with jammed := true, nmiPending := true }
     t.jammed = true ∧ t.nmiPending = true ∧ t.pc = 0x8000 ∧ t.cycles = 1) := by decide

theorem test_witness_InterruptEntryPushesAndVectors :
    (boot []).Inv ∧ (hardwareEntry 0xFFFA (boot [])).pc = 0x9100 ∧ (hardwareEntry 0xFFFE (boot [])).pc = 0x9000 := by
  unfold State.Inv; decide

theorem test_witness_NmiIsTakenFirst :
    (assertNmi (boot [])).jammed = false ∧ (assertNmi (boot [])).nmiPending = true := by decide

theorem test_witness_IrqIsTakenWhenUnmasked :
    (let s := assertIrq { boot [0xEA] with irqPollMask := false }
     s.jammed = false ∧ s.nmiPending = false ∧ s.irqLine = true ∧ s.irqPollMask = false) ∧
    (let s := assertIrq (boot [0xEA])
     s.jammed = false ∧ s.nmiPending = false ∧ s.irqLine = true ∧ s.irqPollMask = true) ∧
    ∃ t, step (boot [0xEA]) = .next t := ⟨by decide, by decide, ⟨_, rfl⟩⟩

/-- RtiResumesTheInterruptedInstruction: the state right after the entry. -/
theorem test_witness_RtiResumesTheInterruptedInstruction :
    (boot [0xEA]).Inv ∧ (let u := hardwareEntry 0xFFFA (boot [0xEA])
      u.sp = (hardwareEntry 0xFFFA (boot [0xEA])).sp ∧ u.ram = (hardwareEntry 0xFFFA (boot [0xEA])).ram) :=
  ⟨by unfold State.Inv; decide, rfl, rfl⟩

theorem test_witness_RtsReturnsAfterTheJsr :
    (boot [0x20, 0x00, 0x90]).Inv ∧ ∃ t, exec (.jsr 0x9000) (boot [0x20, 0x00, 0x90]) = .next t :=
  ⟨by unfold State.Inv; decide, _, rfl⟩

theorem test_witness_EffectiveAddressesAndPageCrosses :
    crossedPage (.zp 0x10) (boot []) = false ∧ crossedPage (.absX 0x12F0) { boot [] with x := 0x10 } = true ∧
    crossedPage (.absX 0x12F0) { boot [] with x := 0x0F } = false := by decide

/-- StoresWriteTheirRegister and IncAndDecModifyMemory: an address outside the stored cell. -/
theorem test_witness_StoresWriteTheirRegister :
    busDecode 0x0011 ≠ busDecode (addressOf (.zp 0x10) (boot [])) := by decide

theorem test_witness_StackInstructionsPushAndPull : (boot [0x48]).Inv := by unfold State.Inv; decide

theorem test_witness_BrkPushesAndVectors : (boot [0x00]).Inv ∧ ∃ t, exec (.brk 0xFF) (boot [0x00]) = .next t :=
  ⟨by unfold State.Inv; decide, _, rfl⟩

/-- UnstableImmediatesUseTheOpenConstants: an operand of zero, and A = $FF (R306, R307 vectors). -/
theorem test_witness_UnstableImmediatesUseTheOpenConstants :
    (0 : Byte) = 0 ∧ ({ boot [0x8B, 0xF3] with a := 0xFF } : State).a = 0xFF := by decide

theorem test_witness_FormsThatStoreNothingKeepMemory :
    (∃ t, exec (.lda (.imm 0x45)) (boot []) = .next t) ∧ ∃ t, exec .rti (boot []) = .next t := ⟨⟨_, rfl⟩, ⟨_, rfl⟩⟩

/-- StoresTouchOnlyTheirBytes: each clause has an instruction that completes and an address it leaves alone. -/
theorem test_witness_StoresTouchOnlyTheirBytes :
    (∃ t, exec (.sta (.zp 0x10)) (boot []) = .next t) ∧ (∃ t, exec (.sha (.absY 0x1200)) (boot []) = .next t) ∧
    (∃ t, exec (.shx 0x1200) (boot []) = .next t) ∧ (∃ t, exec (.shy 0x1200) (boot []) = .next t) ∧
    (∃ t, exec (.tas 0x1200) (boot []) = .next t) ∧ (∃ t, exec .pha (boot []) = .next t) ∧
    (∃ t, exec (.jsr 0x9000) (boot []) = .next t) ∧ (∃ t, exec (.brk 0x00) (boot []) = .next t) ∧
    (∀ p ∈ [(0xFD : Byte), 0xFC, 0xFB], busDecode 0x0010 ≠ busDecode (stackAddr p)) :=
  ⟨⟨_, rfl⟩, ⟨_, rfl⟩, ⟨_, rfl⟩, ⟨_, rfl⟩, ⟨_, rfl⟩, ⟨_, rfl⟩, ⟨_, rfl⟩, ⟨_, rfl⟩, by decide⟩

theorem test_witness_DecimalFlagIsInert :
    pushesStatus (.adc (.imm 0x09)) = false ∧ (∃ t, exec (.adc (.imm 0x09)) (boot []) = .next t) ∧
    pushesStatus .rti = false ∧ writesD .rti = true ∧ ∃ t, exec .rti (boot []) = .next t :=
  ⟨rfl, ⟨_, rfl⟩, rfl, rfl, _, rfl⟩

/-- OnlyListedInstructionsWriteRegisters and …WriteFlags: an instruction that is in no list. -/
theorem test_witness_OnlyListedInstructionsWriteRegisters :
    (∃ t, exec .nop (boot []) = .next t) ∧ writesA .nop = false ∧ writesX .nop = false ∧ writesY .nop = false ∧
    writesS .nop = false := ⟨⟨_, rfl⟩, rfl, rfl, rfl, rfl⟩

theorem test_witness_OnlyListedInstructionsWriteFlags :
    (∃ t, exec .nop (boot []) = .next t) ∧ writesC .nop = false ∧ writesZN .nop = false ∧ writesI .nop = false ∧
    writesD .nop = false ∧ writesV .nop = false := ⟨⟨_, rfl⟩, rfl, rfl, rfl, rfl, rfl⟩

end Sys2Proof.Tests
end

section
/-! SUPPORT. The updates that several instructions share: one lemma for each field they leave unchanged, and the flags
they write as the flag rule they follow. -/

namespace Sys2Proof.Machine

namespace Flags
variable (v : Byte) (f : Flags)
@[simp] theorem setNZ_c : (f.setNZ v).c = f.c := rfl
@[simp] theorem setNZ_i : (f.setNZ v).i = f.i := rfl
@[simp] theorem setNZ_d : (f.setNZ v).d = f.d := rfl
@[simp] theorem setNZ_v : (f.setNZ v).v = f.v := rfl
@[simp] theorem setSum_i (r : Sum) : (f.setSum r).i = f.i := rfl
@[simp] theorem setSum_d (r : Sum) : (f.setSum r).d = f.d := rfl
@[simp] theorem setCompare_i (reg : Byte) : (f.setCompare reg v).i = f.i := rfl
@[simp] theorem setCompare_d (reg : Byte) : (f.setCompare reg v).d = f.d := rfl
@[simp] theorem setCompare_v (reg : Byte) : (f.setCompare reg v).v = f.v := rfl
@[simp] theorem setBit_c (a : Byte) : (f.setBit a v).c = f.c := rfl
@[simp] theorem setBit_i (a : Byte) : (f.setBit a v).i = f.i := rfl
@[simp] theorem setBit_d (a : Byte) : (f.setBit a v).d = f.d := rfl
@[simp] theorem setArr_i : (f.setArr v).i = f.i := rfl
@[simp] theorem setArr_d : (f.setArr v).d = f.d := rfl
@[simp] theorem setShifted_i (r : Shifted) : (f.setShifted r).i = f.i := rfl
@[simp] theorem setShifted_d (r : Shifted) : (f.setShifted r).d = f.d := rfl
@[simp] theorem setShifted_v (r : Shifted) : (f.setShifted r).v = f.v := rfl
end Flags

section addToA
variable (m : Byte) (s : State)
@[simp] theorem addToA_x : (addToA m s).x = s.x := rfl
@[simp] theorem addToA_y : (addToA m s).y = s.y := rfl
@[simp] theorem addToA_sp : (addToA m s).sp = s.sp := rfl
@[simp] theorem addToA_flags : (addToA m s).flags = s.flags.setSum (addWithCarry s.a m s.flags.c) := rfl
@[simp] theorem addToA_ram : (addToA m s).ram = s.ram := rfl
@[simp] theorem addToA_cart : (addToA m s).cart = s.cart := rfl
end addToA

section resultToA
variable (v : Byte) (s : State)
@[simp] theorem resultToA_x : (resultToA v s).x = s.x := rfl
@[simp] theorem resultToA_y : (resultToA v s).y = s.y := rfl
@[simp] theorem resultToA_sp : (resultToA v s).sp = s.sp := rfl
@[simp] theorem resultToA_flags : (resultToA v s).flags = s.flags.setNZ v := rfl
@[simp] theorem resultToA_ram : (resultToA v s).ram = s.ram := rfl
@[simp] theorem resultToA_cart : (resultToA v s).cart = s.cart := rfl
end resultToA

section compareWith
variable (reg m : Byte) (s : State)
@[simp] theorem compareWith_a : (compareWith reg m s).a = s.a := rfl
@[simp] theorem compareWith_x : (compareWith reg m s).x = s.x := rfl
@[simp] theorem compareWith_y : (compareWith reg m s).y = s.y := rfl
@[simp] theorem compareWith_sp : (compareWith reg m s).sp = s.sp := rfl
@[simp] theorem compareWith_flags : (compareWith reg m s).flags = s.flags.setCompare reg m := rfl
@[simp] theorem compareWith_ram : (compareWith reg m s).ram = s.ram := rfl
@[simp] theorem compareWith_cart : (compareWith reg m s).cart = s.cart := rfl
end compareWith

section branch
variable (taken : Bool) (off : Byte) (s : State)
@[simp] theorem branch_a : (branch taken off s).a = s.a := by cases taken <;> rfl
@[simp] theorem branch_x : (branch taken off s).x = s.x := by cases taken <;> rfl
@[simp] theorem branch_y : (branch taken off s).y = s.y := by cases taken <;> rfl
@[simp] theorem branch_sp : (branch taken off s).sp = s.sp := by cases taken <;> rfl
@[simp] theorem branch_flags : (branch taken off s).flags = s.flags := by cases taken <;> rfl
@[simp] theorem branch_ram : (branch taken off s).ram = s.ram := by cases taken <;> rfl
@[simp] theorem branch_cart : (branch taken off s).cart = s.cart := by cases taken <;> rfl
end branch

/-- All a shift or rotate of memory can do: the read-modify-write, then C, Z and N (R230 to R233). -/
theorem shiftPlace_mem (m : MemOperand) (f : Byte → Shifted) (s : State) :
    shiftPlace (.mem m) f s =
      (modifyMem m (fun v => (f v).value) s).2.setFlags (s.flags.setShifted (f (memValue m s))) := by
  simp [shiftPlace, modifyPlace, modifyMem_eq]

/-- All a shift or rotate of the accumulator can do (R230 to R233). -/
theorem shiftPlace_acc (f : Byte → Shifted) (s : State) :
    shiftPlace .acc f s = ((s.setA (f s.a).value).tick 2).setFlags (s.flags.setShifted (f s.a)) := rfl

section takeInterrupt
variable (vector : Word) (b : Bool) (s : State)
@[simp] theorem takeInterrupt_a : (takeInterrupt vector b s).a = s.a := by
  simp [takeInterrupt, readWord, push_eq, pushWord_eq]
@[simp] theorem takeInterrupt_x : (takeInterrupt vector b s).x = s.x := by
  simp [takeInterrupt, readWord, push_eq, pushWord_eq]
@[simp] theorem takeInterrupt_y : (takeInterrupt vector b s).y = s.y := by
  simp [takeInterrupt, readWord, push_eq, pushWord_eq]
@[simp] theorem takeInterrupt_flags : (takeInterrupt vector b s).flags = { s.flags with i := true } := by
  simp [takeInterrupt, readWord, push_eq, pushWord_eq]
end takeInterrupt

end Sys2Proof.Machine
end

section
/-! SUPPORT. What a step can do to memory: bytes of RAM are stored, the cartridge is kept. From it the invariant of the
machine and the immutable cartridge. -/

namespace Sys2Proof.Machine

/-- One byte of RAM is stored (R53, R55). -/
def ByteStored (m n : Memory) : Prop := ∃ k v, k < Config.ramBytes ∧ n = m.write k v

/-- The memory of `t` is that of `s` after some stores to RAM (R39, R53); the cartridge is kept (R40, R65). -/
structure OnlyStores (s t : State) : Prop where
  ram  : Relation.ReflTransGen ByteStored s.ram t.ram
  cart : t.cart = s.cart

theorem OnlyStores.trans {s t u : State} (h : OnlyStores s t) (h' : OnlyStores t u) : OnlyStores s u :=
  ⟨h.ram.trans h'.ram, h'.cart.trans h.cart⟩

/-- The relation speaks of RAM and the cartridge alone. -/
theorem OnlyStores.congr {s t u : State} (h : OnlyStores s t) (hm : u.ram = t.ram ∧ u.cart = t.cart) :
    OnlyStores s u :=
  ⟨hm.1 ▸ h.ram, hm.2.trans h.cart⟩

theorem OnlyStores.of_eq {s t : State} (hm : t.ram = s.ram ∧ t.cart = s.cart) : OnlyStores s t :=
  ⟨hm.1 ▸ .refl, hm.2⟩

/-! ### Stores -/

theorem ownerWrite_onlyStores (a : Word) (v : Byte) (s : State) : OnlyStores s (ownerWrite a v s) := by
  refine ⟨?_, ownerWrite_cart a v s⟩
  rw [ownerWrite_eq, State.setRam_ram]
  cases ha : busDecode a with
  | ram k => exact .single ⟨k, v, busDecode_ram_lt ha, rfl⟩
  | ppu | apuIo | unused | mapper => exact .refl

theorem writeMem_onlyStores (m : MemOperand) (v : Byte) (s : State) : OnlyStores s (writeMem m v s) := by
  rw [writeMem_eq]
  exact (ownerWrite_onlyStores (addressOf m s) v s).congr (by simp)

theorem writeHigh_onlyStores (m : MemOperand) (r : Byte) (s : State) : OnlyStores s (writeHigh m r s) := by
  rw [writeHigh_eq]
  exact (ownerWrite_onlyStores (highStoreAddr r (effAddr m s).1) (highStoreValue r (effAddr m s).1) s).congr (by simp)

theorem modifyMem_onlyStores (m : MemOperand) (f : Byte → Byte) (s : State) : OnlyStores s (modifyMem m f s).2 := by
  rw [modifyMem_eq]
  have hback := ownerWrite_onlyStores (addressOf m s) (memValue m s) s
  exact (hback.trans (ownerWrite_onlyStores (addressOf m s) (f (memValue m s)) _)).congr (by simp [writeBack])

theorem shiftPlace_onlyStores (p : Place) (f : Byte → Shifted) (s : State) : OnlyStores s (shiftPlace p f s) := by
  cases p with
  | acc => exact .of_eq ⟨rfl, rfl⟩
  | mem m =>
    rw [shiftPlace_mem]
    exact (modifyMem_onlyStores m (fun v => (f v).value) s).congr ⟨rfl, rfl⟩

theorem push_onlyStores (v : Byte) (s : State) : OnlyStores s (push v s) :=
  (ownerWrite_onlyStores (stackAddr s.sp) v s).congr (by simp [push_eq])

theorem pushWord_onlyStores (w : Word) (s : State) : OnlyStores s (pushWord w s) :=
  (push_onlyStores (hiByte w) s).trans (push_onlyStores (loByte w) _)

theorem takeInterrupt_onlyStores (vector : Word) (b : Bool) (s : State) : OnlyStores s (takeInterrupt vector b s) :=
  ((pushWord_onlyStores s.pc s).trans (push_onlyStores (packP b s.flags) _)).congr (by simp [takeInterrupt, readWord])

theorem hardwareEntry_onlyStores (vector : Word) (s : State) : OnlyStores s (hardwareEntry vector s) :=
  (takeInterrupt_onlyStores vector false s).congr (by simp [hardwareEntry])

/-! ### Reads -/

theorem readMem_onlyStores (m : MemOperand) (s : State) : OnlyStores s (readMem m s).2 := by
  rw [readMem_eq]
  exact .of_eq ⟨rfl, rfl⟩

theorem readSource_onlyStores (o : Source) (s : State) : OnlyStores s (readSource o s).2 := by
  rw [readSource_eq]
  exact .of_eq ⟨rfl, rfl⟩

theorem fetchInstr_onlyStores (s : State) : OnlyStores s (fetchInstr s).2 := by
  obtain ⟨p, b, h⟩ := fetchInstr_snd s
  rw [h]
  exact .of_eq ⟨rfl, rfl⟩

/-! ### Instructions, steps and host operations -/

/-- No instruction does anything to memory but store to RAM. -/
theorem exec_onlyStores {i : Instr} {s t : State} (h : exec i s = .next t) : OnlyStores s t := by
  cases i with
  | lda o | ldx o | ldy o | adc o | sbc o | and o | ora o | eor o | cmp o | cpx o | cpy o =>
    cases h; exact (readSource_onlyStores o s).congr (by simp)
  | bit m | lax m => cases h; exact (readMem_onlyStores m s).congr (by simp)
  | las w => cases h; exact (readMem_onlyStores (.absY w) s).congr (by simp)
  | nopZp | nopZpX | nopAbs | nopAbsX => cases h; exact readMem_onlyStores _ s
  | sta | stx | sty | sax => cases h; exact writeMem_onlyStores _ _ s
  | sha | shx | shy => cases h; exact writeHigh_onlyStores _ _ s
  | tas =>
    have hs : OnlyStores s (s.setSp (s.a &&& s.x)) := .of_eq ⟨rfl, rfl⟩
    cases h; exact hs.trans (writeHigh_onlyStores _ _ _)
  | inc m | isc m => cases h; exact (modifyMem_onlyStores m (· + 1) s).congr (by simp)
  | dec m | dcp m => cases h; exact (modifyMem_onlyStores m (· - 1) s).congr (by simp)
  | slo m => cases h; exact (modifyMem_onlyStores m (fun v => (shiftLeft v).value) s).congr (by simp)
  | rla m => cases h; exact (modifyMem_onlyStores m (fun v => (rotateLeft s.flags.c v).value) s).congr (by simp)
  | sre m => cases h; exact (modifyMem_onlyStores m (fun v => (shiftRight v).value) s).congr (by simp)
  | rra m => cases h; exact (modifyMem_onlyStores m (fun v => (rotateRight s.flags.c v).value) s).congr (by simp)
  | asl | lsr | rol | ror => cases h; exact shiftPlace_onlyStores _ _ s
  | pha => cases h; exact (push_onlyStores s.a s).congr (by simp)
  | php => cases h; exact (push_onlyStores (packP true s.flags) s).congr (by simp)
  | jsr => cases h; exact (pushWord_onlyStores s.pc s).congr (by simp)
  | brk => cases h; exact (takeInterrupt_onlyStores irqVector true s).congr (by simp)
  | pla | plp | rts | rti => cases h; exact .of_eq (by simp [pull_eq, pullWord_eq, returnFromInterrupt_eq])
  | bcc | bcs | beq | bne | bmi | bpl | bvc | bvs => cases h; exact .of_eq (by simp)
  | tax | tay | txa | tya | tsx | txs | inx | iny | dex | dey | jmpAbs | jmpInd | clc | sec | cli | sei | cld | sed
  | clv | nop | jam | nopImplied | nopImm | anc | alr | arr | ane | lxa | sbx | sbcEB =>
    cases h; exact .of_eq (by simp [jumpPointer_eq, readSource_eq])

/-- No step does anything to memory but store to RAM (R341). -/
theorem step_onlyStores {s t : State} (h : step s = .next t) : OnlyStores s t := by
  obtain ⟨-, rfl⟩ | ⟨-, -, rfl⟩ | ⟨-, -, -, -, rfl⟩ | ⟨-, u, hu, rfl⟩ := step_cases h
  · exact .of_eq ⟨rfl, rfl⟩
  · have hs : OnlyStores s (s.setNmiPending false) := .of_eq ⟨rfl, rfl⟩
    exact hs.trans (hardwareEntry_onlyStores nmiVector _)
  · exact hardwareEntry_onlyStores irqVector s
  · exact ((fetchInstr_onlyStores s).trans (exec_onlyStores hu)).congr (by simp [retire])

/-- No host operation between two steps does anything to memory (R362, R381). -/
theorem lineOp_onlyStores (o : LineOp) (s : State) : OnlyStores s (lineOp o s) := by
  cases o with
  | assertNmi | assertIrq | deassertIrq => exact .of_eq ⟨rfl, rfl⟩
  | reset => exact .of_eq (by simp [lineOp, resetLine, readWord])

/-! ### The invariant -/

/-- Stores keep a RAM canonical and inside its 2 KiB. -/
theorem Memory.stores_keep_form {m n : Memory} (h : Relation.ReflTransGen ByteStored m n) (hwf : m.wf = true)
    (hin : m.within Config.ramBytes = true) : n.wf = true ∧ n.within Config.ramBytes = true := by
  induction h with
  | refl => exact ⟨hwf, hin⟩
  | tail _ hstored ih =>
    obtain ⟨k, v, hk, rfl⟩ := hstored
    exact ⟨write_keeps_wf _ k v ih.1, write_keeps_within _ _ k v hk ih.2⟩

theorem OnlyStores.keeps_inv {s t : State} (h : OnlyStores s t) (hs : s.Inv) : t.Inv := by
  obtain ⟨hwf, hin, hcart⟩ := hs
  obtain ⟨hwf', hin'⟩ := Memory.stores_keep_form h.ram hwf hin
  exact ⟨hwf', hin', h.cart.symm ▸ hcart⟩

/-- Settles O19: a step only stores to RAM, and such stores keep the invariant. -/
theorem stepKeepsTheInvariant : Obligations.StepKeepsTheInvariant :=
  fun _ _ hs h => (step_onlyStores h).keeps_inv hs

/-- Settles O21: neither a step nor a host operation does more to memory than store to RAM. -/
theorem cartridgeIsImmutable : Obligations.CartridgeIsImmutable :=
  ⟨fun _ _ h => (step_onlyStores h).cart, fun s o => (lineOp_onlyStores o s).cart⟩

/-- Settles O18: RAM and PRG list nothing at reset, and the blank cartridge has the baseline mapper. -/
theorem resetMeetsTheInvariant : Obligations.ResetMeetsTheInvariant :=
  ⟨rfl, rfl, rfl, rfl, rfl⟩

end Sys2Proof.Machine
end

section
/-! SUPPORT. Which instructions write a register or a flag. Instructions that go through the same shared operation are
one case. The lists of writers are unfolded by their `eq_def`: Lean needs too long to derive one equation for each arm
of a list over 84 constructors. -/

namespace Sys2Proof.Machine

/-- Settles O59: a register changes only where the instruction's own rule names it; its operand access changes none. -/
theorem onlyListedInstructionsWriteRegisters : Obligations.OnlyListedInstructionsWriteRegisters := by
  intro i s t h
  cases i with
  | lda | ldx | ldy | adc | sbc | and | ora | eor | cmp | cpx | cpy | sbcEB =>
    cases h; simp [writesA.eq_def, writesX.eq_def, writesY.eq_def, readSource_eq]
  | bit | lax | las | nopZp | nopZpX | nopAbs | nopAbsX =>
    cases h; simp [writesA.eq_def, writesX.eq_def, writesS.eq_def, readMem_eq]
  | sta | stx | sty | sax => cases h; simp [writeMem_eq]
  | sha | shx | shy | tas => cases h; simp [writesS.eq_def, writeHigh_eq]
  | inc | dec | slo | rla | sre | rra | dcp | isc => cases h; simp [writesA.eq_def, modifyMem_eq]
  | asl p | lsr p | rol p | ror p =>
    cases h
    cases p with
    | acc => simp [writesA.eq_def, shiftPlace_acc]
    | mem m => simp [shiftPlace_mem, modifyMem_eq]
  | bcc | bcs | beq | bne | bmi | bpl | bvc | bvs => cases h; simp
  | pha | php | jsr => cases h; simp [writesS.eq_def, push_eq, pushWord_eq]
  | pla | plp | rts | rti =>
    cases h; simp [writesA.eq_def, writesS.eq_def, pull_eq, pullWord_eq, returnFromInterrupt_eq]
  | brk => cases h; simp [writesS.eq_def]
  | tax | tay | txa | tya | tsx | txs | inx | iny | dex | dey | anc | alr | arr | ane | lxa | sbx =>
    cases h; simp [writesA.eq_def, writesX.eq_def, writesY.eq_def, writesS.eq_def]
  | clc | sec | cli | sei | cld | sed | clv | jmpAbs | jmpInd | nop | jam | nopImplied | nopImm =>
    cases h; simp [jumpPointer_eq]

/-- Settles O60: a flag changes only by a flag rule that the instruction's list names. -/
theorem onlyListedInstructionsWriteFlags : Obligations.OnlyListedInstructionsWriteFlags := by
  intro i s t h
  cases i with
  | lda | ldx | ldy | adc | sbc | and | ora | eor | cmp | cpx | cpy | sbcEB =>
    cases h; simp [writesC.eq_def, writesZN.eq_def, writesV.eq_def, readSource_eq]
  | bit | lax | las | nopZp | nopZpX | nopAbs | nopAbsX =>
    cases h; simp [writesZN.eq_def, writesV.eq_def, readMem_eq]
  | sta | stx | sty | sax => cases h; simp [writeMem_eq]
  | sha | shx | shy | tas => cases h; simp [writeHigh_eq]
  | inc | dec | slo | rla | sre | rra | dcp | isc =>
    cases h; simp [writesC.eq_def, writesZN.eq_def, writesV.eq_def, modifyMem_eq]
  | asl p | lsr p | rol p | ror p =>
    cases h
    cases p with
    | acc => simp [writesC.eq_def, writesZN.eq_def, shiftPlace_acc]
    | mem m => simp [writesC.eq_def, writesZN.eq_def, shiftPlace_mem]
  | bcc | bcs | beq | bne | bmi | bpl | bvc | bvs => cases h; simp
  | pha | php | jsr => cases h; simp [push_eq, pushWord_eq]
  | pla | rts => cases h; simp [writesZN.eq_def, pull_eq, pullWord_eq]
  | plp | rti =>
    cases h; simp [writesC.eq_def, writesZN.eq_def, writesI.eq_def, writesD.eq_def, writesV.eq_def]
  | brk => cases h; simp [writesI.eq_def]
  | tax | tay | txa | tya | tsx | txs | inx | iny | dex | dey | anc | alr | arr | ane | lxa | sbx =>
    cases h; simp [writesC.eq_def, writesZN.eq_def, writesV.eq_def]
  | clc | sec | cli | sei | cld | sed | clv =>
    cases h; simp [writesC.eq_def, writesI.eq_def, writesD.eq_def, writesV.eq_def]
  | jmpAbs | jmpInd | nop | jam | nopImplied | nopImm => cases h; simp [jumpPointer_eq]

end Sys2Proof.Machine
end

section
/-! SUPPORT. D is inert: every operation commutes with putting another D in place, until a status push. -/

namespace Sys2Proof.Machine

section
variable (d : Bool) (s : State)

@[simp] theorem State.withD_a : (s.withD d).a = s.a := rfl
@[simp] theorem State.withD_x : (s.withD d).x = s.x := rfl
@[simp] theorem State.withD_y : (s.withD d).y = s.y := rfl
@[simp] theorem State.withD_sp : (s.withD d).sp = s.sp := rfl
@[simp] theorem State.withD_pc : (s.withD d).pc = s.pc := rfl
@[simp] theorem State.withD_flags : (s.withD d).flags = { s.flags with d := d } := rfl

theorem State.setSp_withD (v : Byte) : (s.withD d).setSp v = (s.setSp v).withD d := rfl

theorem ownerWrite_withD (a : Word) (v : Byte) : ownerWrite a v (s.withD d) = (ownerWrite a v s).withD d := by
  rw [ownerWrite_eq, ownerWrite_eq]; rfl

theorem effAddr_withD (m : MemOperand) : effAddr m (s.withD d) = ((effAddr m s).1, (effAddr m s).2.withD d) := by
  cases m <;> rfl

theorem readMem_withD (m : MemOperand) : readMem m (s.withD d) = ((readMem m s).1, (readMem m s).2.withD d) := by
  simp only [readMem, effAddr_withD]; rfl

theorem readSource_withD (o : Source) :
    readSource o (s.withD d) = ((readSource o s).1, (readSource o s).2.withD d) := by
  cases o with
  | imm b => rfl
  | mem m => exact readMem_withD d s m

theorem memWrite_withD (a : Word) (v : Byte) : memWrite a v (s.withD d) = (memWrite a v s).withD d := by
  simp only [memWrite, ownerWrite_withD]; rfl

theorem writeMem_withD (m : MemOperand) (v : Byte) : writeMem m v (s.withD d) = (writeMem m v s).withD d := by
  simp only [writeMem, effAddr_withD, memWrite_withD]; rfl

theorem writeHigh_withD (m : MemOperand) (r : Byte) : writeHigh m r (s.withD d) = (writeHigh m r s).withD d := by
  simp only [writeHigh, effAddr_withD, memWrite_withD]; rfl

theorem memRead_withD (a : Word) : memRead a (s.withD d) = ((memRead a s).1, (memRead a s).2.withD d) := rfl

theorem modifyMem_withD (m : MemOperand) (f : Byte → Byte) :
    modifyMem m f (s.withD d) = ((modifyMem m f s).1, (modifyMem m f s).2.withD d) := by
  simp only [modifyMem, effAddr_withD, memRead_withD, memWrite_withD]; rfl

theorem shiftPlace_withD (p : Place) (f : Byte → Shifted) :
    shiftPlace p f (s.withD d) = (shiftPlace p f s).withD d := by
  cases p with
  | acc => rfl
  | mem m => simp only [shiftPlace, modifyPlace, modifyMem_withD]; rfl

theorem push_withD (v : Byte) : push v (s.withD d) = (push v s).withD d := by
  simp only [push, State.withD_sp, memWrite_withD]; rfl

theorem pushWord_withD (w : Word) : pushWord w (s.withD d) = (pushWord w s).withD d := by
  simp only [pushWord, push_withD]

theorem branch_withD (taken : Bool) (off : Byte) : branch taken off (s.withD d) = (branch taken off s).withD d := by
  cases taken <;> rfl

end

/-- Settles O58: each operand access, push and branch commutes with another D, and no flag rule reads D. -/
theorem decimalFlagIsInert : Obligations.DecimalFlagIsInert := by
  intro i d s t hpush h
  cases i with
  | php | brk => cases hpush
  | lda | ldx | ldy | adc | sbc | and | ora | eor | cmp | cpx | cpy | sbcEB =>
    cases h
    simp only [exec_lda, execLda, exec_ldx, execLdx, exec_ldy, execLdy, exec_adc, execAdc, exec_sbc, execSbc, exec_and,
      execAnd, exec_ora, execOra, exec_eor, execEor, exec_cmp, execCmp, exec_cpx, execCpx, exec_cpy, execCpy,
      exec_sbcEB, execSbcEB, readSource_withD]
    rfl
  | bit | lax | las | nopZp | nopZpX | nopAbs | nopAbsX =>
    cases h
    simp only [exec_bit, execBit, exec_lax, execLax, exec_las, execLas, exec_nopZp, execNopZp, exec_nopZpX, execNopZpX,
      exec_nopAbs, execNopAbs, exec_nopAbsX, execNopAbsX, readMem_withD]
    rfl
  | sta | stx | sty | sax =>
    cases h
    simp only [exec_sta, execSta, exec_stx, execStx, exec_sty, execSty, exec_sax, execSax, writeMem_withD]
    rfl
  | sha | shx | shy | tas =>
    cases h
    simp only [exec_sha, execSha, exec_shx, execShx, exec_shy, execShy, exec_tas, execTas, State.setSp_withD,
      writeHigh_withD]
    rfl
  | inc | dec | slo | rla | sre | rra | dcp | isc =>
    cases h
    simp only [exec_inc, execInc, exec_dec, execDec, exec_slo, execSlo, exec_rla, execRla, exec_sre, execSre, exec_rra,
      execRra, exec_dcp, execDcp, exec_isc, execIsc, modifyMem_withD]
    rfl
  | asl | lsr | rol | ror =>
    cases h
    simp only [exec_asl, execAsl, exec_lsr, execLsr, exec_rol, execRol, exec_ror, execRor, shiftPlace_withD]
    rfl
  | bcc | bcs | beq | bne | bmi | bpl | bvc | bvs =>
    cases h
    simp only [exec_bcc, execBcc, exec_bcs, execBcs, exec_beq, execBeq, exec_bne, execBne, exec_bmi, execBmi, exec_bpl,
      execBpl, exec_bvc, execBvc, exec_bvs, execBvs, branch_withD]
    rfl
  | pha | jsr =>
    cases h
    simp only [exec_pha, execPha, exec_jsr, execJsr, push_withD, State.withD_pc, pushWord_withD, memRead_withD]
    rfl
  | plp | rti | sed | cld => cases h; rfl
  | pla | rts | tax | tay | txa | tya | tsx | txs | inx | iny | dex | dey | anc | alr | arr | ane | lxa | sbx | jmpAbs
  | jmpInd | clc | sec | cli | sei | clv | nop | jam | nopImplied | nopImm => cases h; rfl

end Sys2Proof.Machine
end

section
/-! SUPPORT. The reset state and the status byte. -/

namespace Sys2Proof.Machine

/-- The blank cartridge reads $00 wherever it drives the bus (notes/assumptions/2.md). -/
theorem busValue_reset {a : Word} (h : 0x8000 ≤ a.toNat) : busValue a State.reset = 0 := busValue_prg h State.reset

/-- Settles O1: the Reset vector of the blank cartridge is $0000, and every other value is a field of `State.reset`. -/
theorem resetStateHasSpecValues : Obligations.ResetStateHasSpecValues := by
  unfold Obligations.ResetStateHasSpecValues
  rw [busValue_reset (a := 0xFFFC) (by decide), busValue_reset (a := 0xFFFD) (by decide)]
  decide

/-- What is pulled is pushed back, bit 5 set and bit 4 the Break indication (R27, R28). -/
theorem packP_unpackP (b : Bool) (v : Byte) : packP b (unpackP v) = (v ||| 0x20) &&& 0xEF ||| bitAt b 4 := by
  apply BitVec.eq_of_getLsbD_eq
  intro j hj
  have hpack := packP_bits b (unpackP v) ⟨j, hj⟩
  rw [hpack, BitVec.getLsbD_or, BitVec.getLsbD_and, BitVec.getLsbD_or]
  interval_cases j <;> cases b <;> simp [unpackP, bitAt]

/-- Settles O11, from the pushed byte's bits and the two round trips. -/
theorem statusByteLayout : Obligations.StatusByteLayout := by
  intro b f v
  have hbit := packP_bits b f
  exact ⟨hbit 7, hbit 6, hbit 5, hbit 4, hbit 3, hbit 2, hbit 1, hbit 0, rfl, unpackP_packP b f, packP_unpackP b v⟩

end Sys2Proof.Machine
end

section
/-! SUPPORT. Canonical memories, the bus's owners as masks of the address, what a read and a write of each does, and
which images build a machine. -/

namespace Sys2Proof.Machine

/-! ### Canonical memories -/

/-- A memory that reads as a canonical one lists no address before the other's first. -/
theorem Memory.head_le_of_read_eq {j k : Nat} {u v : Byte} {m n : Memory} (hm : Memory.wf ((k, u) :: m) = true)
    (hn : Memory.wf ((j, v) :: n) = true) (h : ∀ a, Memory.read ((k, u) :: m) a = Memory.read ((j, v) :: n) a) :
    j ≤ k := by
  obtain ⟨hu, -, -⟩ := (Memory.wf_cons k u m).1 hm
  obtain ⟨-, hlt, -⟩ := (Memory.wf_cons j v n).1 hn
  by_contra hkj
  have hbelow : Memory.read ((j, v) :: n) k = Config.unlistedByte :=
    Memory.read_of_below _ k (List.forall_mem_cons.2 ⟨by omega, fun c hc => by have := hlt c hc; omega⟩)
  exact hu (by rw [← hbelow, ← h k, Memory.read_cons, if_pos rfl])

/-- A canonical memory lists its first address once. -/
theorem Memory.read_tail_head {k : Nat} {v : Byte} {m : Memory} (h : Memory.wf ((k, v) :: m) = true) :
    m.read k = Config.unlistedByte :=
  Memory.read_of_below m k ((Memory.wf_cons k v m).1 h).2.1

/-- Settles O8, by induction on both lists: equal reads give equal first cells, and then equal reads of the rests. -/
theorem canonicalMemoriesAreEqualData : Obligations.CanonicalMemoriesAreEqualData := by
  intro m
  induction m with
  | nil =>
    rintro (_ | ⟨⟨j, v⟩, n⟩) - hn h
    · rfl
    · have hv := h j
      rw [Memory.read_nil, Memory.read_cons, if_pos rfl] at hv
      exact absurd hv.symm ((Memory.wf_cons j v n).1 hn).1
  | cons c m ih =>
    obtain ⟨k, u⟩ := c
    rintro (_ | ⟨⟨j, v⟩, n⟩) hm hn h
    · have hu := h k
      rw [Memory.read_nil, Memory.read_cons, if_pos rfl] at hu
      exact absurd hu ((Memory.wf_cons k u m).1 hm).1
    · obtain rfl : j = k :=
        Nat.le_antisymm (Memory.head_le_of_read_eq hm hn h) (Memory.head_le_of_read_eq hn hm fun a => (h a).symm)
      obtain rfl : u = v := by simpa [Memory.read_cons] using h j
      have hrest : ∀ a, Memory.read m a = Memory.read n a := by
        intro a
        by_cases ha : j = a
        · subst ha
          rw [Memory.read_tail_head hm, Memory.read_tail_head hn]
        · simpa [Memory.read_cons, ha] using h a
      rw [ih n ((Memory.wf_cons j u m).1 hm).2.2 ((Memory.wf_cons j u n).1 hn).2.2 hrest]

/-! ### Owners of address ranges -/

/-- `addr & $07FF` of R55 as a remainder. -/
theorem ramIndex_toNat (a : Word) : (a &&& 0x07FF).toNat = a.toNat % 0x0800 := by
  rw [BitVec.toNat_and]
  exact Nat.and_two_pow_sub_one_eq_mod a.toNat 11

/-- `addr & $0007` of R59 as a remainder. -/
theorem ppuIndex_toNat (a : Word) : (a &&& 0x0007).toNat = a.toNat % 8 := by
  rw [BitVec.toNat_and]
  exact Nat.and_two_pow_sub_one_eq_mod a.toNat 3

section
variable {a : Word}

/-- $0000-$1FFF is RAM, mirrored every $0800 (R54, R55). -/
theorem busDecode_low (h : a.toNat ≤ 0x1FFF) : busDecode a = .ram (a &&& 0x07FF).toNat := by
  rw [busDecode_ram (by omega), ramIndex_toNat]

/-- $2000-$3FFF is the PPU window (R54, R59). -/
theorem busDecode_ppu (h1 : 0x2000 ≤ a.toNat) (h2 : a.toNat ≤ 0x3FFF) : busDecode a = .ppu (a &&& 0x0007).toNat := by
  rw [ppuIndex_toNat, busDecode, if_neg (by omega), if_pos (by omega)]

/-- $4000-$4017 is APU/IO (R54, R61). -/
theorem busDecode_apuIo (h1 : 0x4000 ≤ a.toNat) (h2 : a.toNat ≤ 0x4017) : busDecode a = .apuIo (a.toNat - 0x4000) := by
  rw [busDecode, if_neg (by omega), if_neg (by omega), if_pos (by omega)]

/-- $4018-$401F is unused (R54, R62). -/
theorem busDecode_unused (h1 : 0x4018 ≤ a.toNat) (h2 : a.toNat ≤ 0x401F) : busDecode a = .unused := by
  rw [busDecode, if_neg (by omega), if_neg (by omega), if_neg (by omega), if_pos (by omega)]

/-- No address from $2000 up is RAM (R54). -/
theorem busDecode_ne_ram (h : 0x2000 ≤ a.toNat) (k : Nat) : busDecode a ≠ .ram k := by
  unfold busDecode
  rw [if_neg (by omega)]
  split_ifs <;> exact Owner.noConfusion

end

/-- Settles O5, range by range. -/
theorem everyAddressHasItsOwner : Obligations.EveryAddressHasItsOwner := fun _ =>
  ⟨busDecode_low, fun h => busDecode_ppu h.1 h.2, fun h => busDecode_apuIo h.1 h.2,
    fun h => busDecode_unused h.1 h.2, busDecode_mapper⟩

/-! ### Bus reads and writes -/

/-- A read of an address that nothing drives returns the latch (R52). -/
theorem busValue_undriven {a : Word} (h1 : 0x2000 ≤ a.toNat) (h2 : a.toNat < 0x8000) (s : State) :
    busValue a s = s.openBus := by
  rw [busValue, ownerRead_undriven h1 h2, Option.getD_none]

/-- Settles O6: what each owner drives. -/
theorem busReadsDriveTheLatch : Obligations.BusReadsDriveTheLatch := fun _ s =>
  ⟨rfl, fun h => busValue_of_driven (ownerRead_ram (busDecode_low h) s),
    fun h => busValue_undriven h.1 (by omega) s, fun h => busValue_prg h s⟩

/-- A write from $2000 up has no effect on its owner (R60 to R62, R65). -/
theorem ownerWrite_outside_ram {a : Word} (h : 0x2000 ≤ a.toNat) (v : Byte) (s : State) : ownerWrite a v s = s := by
  have hne := busDecode_ne_ram h
  rw [ownerWrite_eq]
  cases ha : busDecode a with
  | ram k => exact absurd ha (hne k)
  | ppu | apuIo | unused | mapper => rfl

/-- A bus write changes nothing but the latch and RAM (R53, R65). -/
theorem memWrite_eq (a : Word) (v : Byte) (s : State) :
    memWrite a v s = { s with openBus := v, ram := (ownerWrite a v s).ram } := by
  rw [memWrite, ownerWrite_eq]
  rfl

/-- A RAM address reads, after a write to a RAM address of a canonical RAM, the value written where the two are
mirrors (R55), and its old byte elsewhere. -/
theorem ownerRead_memWrite_ram {a b : Word} (v : Byte) {s : State} (hwf : s.ram.wf = true) (ha : a.toNat ≤ 0x1FFF)
    (hb : b.toNat ≤ 0x1FFF) :
    ownerRead b (memWrite a v s) =
      some (if b &&& 0x07FF = a &&& 0x07FF then v else s.ram.read (b &&& 0x07FF).toNat) := by
  rw [memWrite, ownerRead_setOpenBus]
  split
  case isTrue heq => exact ownerRead_ownerWrite_same v s hwf (busDecode_low ha) (heq ▸ busDecode_low hb)
  case isFalse hne =>
    have hcell : busDecode b ≠ busDecode a := by
      rw [busDecode_low ha, busDecode_low hb]
      exact fun e => hne (BitVec.eq_of_toNat_eq (Owner.ram.inj e))
    rw [ownerRead_ownerWrite_other v s hcell, ownerRead_ram (busDecode_low hb)]

/-- Settles O7: a write outside RAM is dropped by its owner, one to RAM stores one mirrored byte. -/
theorem busWritesReachOnlyRam : Obligations.BusWritesReachOnlyRam := by
  intro a v s
  refine ⟨fun h => ?_, fun ha => ⟨memWrite_eq a v s, fun b hs hb => ?_⟩⟩
  · rw [memWrite, ownerWrite_outside_ram h]
    rfl
  · obtain ⟨hwf, -⟩ := hs
    exact ownerRead_memWrite_ram v hwf ha hb

/-! ### Images -/

/-- The construction of R382 is refused exactly on a configuration error (R67). -/
theorem powerOn_refused_iff (img : CartridgeImage) (ramInit : Vector Byte 2048) :
    (∃ r, powerOn img ramInit = .refused r) ↔ img.check ≠ none := by
  unfold powerOn
  cases hc : img.check with
  | none => simp
  | some e => cases e <;> simp

/-- The images with a configuration error (R67). -/
theorem check_ne_none_iff (img : CartridgeImage) :
    img.check ≠ none ↔ (img.prg.length ≠ 16384 ∧ img.prg.length ≠ 32768) ∨ img.mapperId ≠ 0 := by
  unfold CartridgeImage.check
  split_ifs with hsize hmapper
  · exact iff_of_true (by simp) (.inl hsize)
  · exact iff_of_true (by simp) (.inr hmapper)
  · exact iff_of_false (by simp) (not_or.2 ⟨hsize, hmapper⟩)

/-- Settles O4: `powerOn` refuses what the image's check finds. -/
theorem badCartridgesBuildNoMachine : Obligations.BadCartridgesBuildNoMachine := fun img ramInit =>
  (powerOn_refused_iff img ramInit).trans (check_ne_none_iff img)

end Sys2Proof.Machine
end

section
/-! SUPPORT. The stack as a stack: what a push and a pull leave of the stack's bytes, and pushes undone by as many
pulls. -/

namespace Sys2Proof.Machine

@[simp] theorem push_sp (v : Byte) (s : State) : (push v s).sp = s.sp - 1 := rfl

@[simp] theorem pull_fst (s : State) : (pull s).1 = stackByte (s.sp + 1) s := by rw [pull_eq]

@[simp] theorem pull_snd_sp (s : State) : (pull s).2.sp = s.sp + 1 := by rw [pull_eq]; rfl

@[simp] theorem stackByte_pull (p : Byte) (s : State) : stackByte p (pull s).2 = stackByte p s := by rw [pull_eq]; rfl

/-- A pushed byte is read back where S stood (R70). -/
theorem stackByte_push_same (v : Byte) {s : State} (hwf : s.ram.wf = true) : stackByte s.sp (push v s) = v :=
  stackByte_ownerWrite_same s.sp v s hwf

/-- A push leaves every other byte of the stack (R70). -/
theorem stackByte_push_other {p : Byte} (v : Byte) {s : State} (h : p ≠ s.sp) :
    stackByte p (push v s) = stackByte p s :=
  stackByte_ownerWrite_other v s h

/-- Every stack address lies in page 1 (R72). -/
theorem stackAddr_in_page_one (p : Byte) : 0x0100 ≤ (stackAddr p).toNat ∧ (stackAddr p).toNat ≤ 0x01FF := by
  have := p.isLt
  rw [stackAddr_toNat]
  omega

/-- A push keeps every byte but the one it stores (R70, R72). -/
theorem push_sameMemoryBut (v : Byte) (s : State) : SameMemoryBut (stackAddr s.sp) s (push v s) := by
  intro b hb
  rw [push_eq, ownerRead_setSp, ownerRead_setOpenBus, ownerRead_ownerWrite_other v s hb]

/-- Settles O9, from what a push and a pull do to the stack's bytes, with the two wraps evaluated. -/
theorem pushAndPullUseThePageOneStack : Obligations.PushAndPullUseThePageOneStack := by
  intro v s
  refine ⟨rfl, push_sameMemoryBut v s, pull_eq s, ?_, stackAddr_in_page_one, ?_, ?_⟩
  · rintro ⟨hwf, -⟩
    exact stackByte_push_same v hwf
  · intro h
    rw [push_sp, h]
    decide
  · intro h
    rw [pull_snd_sp, h]
    decide

/-- `n + 1` pulls are `n` pulls and one more. -/
theorem pullMany_succ (n : Nat) (s : State) :
    pullMany (n + 1) s = ((pullMany n s).1 ++ [(pull (pullMany n s).2).1], (pull (pullMany n s).2).2) := by
  induction n generalizing s with
  | zero => rfl
  | succ n ih => rw [pullMany, ih]; rfl

/-- Pulls change no byte of the stack (R71). -/
theorem stackByte_pullMany (p : Byte) (n : Nat) (s : State) : stackByte p (pullMany n s).2 = stackByte p s := by
  induction n generalizing s with
  | zero => rfl
  | succ n ih => rw [pullMany, ih, stackByte_pull]

/-- Pushes do not reach a stack byte that lies as many bytes below S as there are pushes, counted modulo 256. -/
theorem stackByte_pushAll_other {p : Byte} (vs : List Byte) (s : State) (h : vs.length ≤ (s.sp - p).toNat) :
    stackByte p (pushAll vs s) = stackByte p s := by
  induction vs generalizing s with
  | nil => rfl
  | cons v vs ih =>
    rw [List.length_cons] at h
    have hp : p ≠ s.sp := by bv_omega
    have hrest : vs.length ≤ ((push v s).sp - p).toNat := by rw [push_sp]; bv_omega
    rw [pushAll, ih _ hrest, stackByte_push_other v hp]

/-- Settles O10, by induction on the bytes: the pulls that undo the later pushes leave S below the first byte, which
at most 255 later pushes have not reached. -/
theorem pulledBytesAreThePushedBytesReversed : Obligations.PulledBytesAreThePushedBytesReversed := by
  intro vs
  induction vs with
  | nil => exact fun _ _ _ => ⟨rfl, rfl⟩
  | cons v vs ih =>
    intro s hs hlen
    rw [List.length_cons] at hlen
    obtain ⟨hbytes, hsp⟩ := ih (push v s) ((push_onlyStores v s).keeps_inv hs) (by omega)
    have hback : (pullMany vs.length (pushAll vs (push v s))).2.sp + 1 = s.sp := by
      rw [hsp, push_sp, BitVec.sub_add_cancel]
    have hfar : vs.length ≤ ((push v s).sp - s.sp).toNat := by rw [push_sp]; bv_omega
    have hfirst : stackByte s.sp (pushAll vs (push v s)) = v := by
      obtain ⟨hwf, -⟩ := hs
      rw [stackByte_pushAll_other vs _ hfar, stackByte_push_same v hwf]
    rw [List.length_cons, pushAll, pullMany_succ]
    dsimp only
    rw [pull_fst, pull_snd_sp, hback, stackByte_pullMany, hfirst, hbytes, List.reverse_cons]
    exact ⟨rfl, rfl⟩

end Sys2Proof.Machine
end

section
/-! SUPPORT. The encoder and the decoder as inverses: `decode` of `encode` for every term, and `encode` of every row the
decoder reads. -/

namespace Sys2Proof.Machine

open Sys2Proof.Laws.Encoding (exists_opcodeByte)

/-- The bytes of `i`, before `rest`, decode to `j` when the table has a row for `i`; when not, `i` has no bytes (R95,
R96). -/
def DecodesAs (rest : List Byte) (i j : Instr) : Prop :=
  decode (encode i ++ rest) = if i.wellFormed then .ok (j, rest) else decode rest

/-- The memory form that its operand bytes make: a word is joined from its low and its high byte (R91). -/
def rejoined : MemOperand → MemOperand
  | .abs w => .abs (cat (hiByte w) (loByte w))
  | .absX w => .absX (cat (hiByte w) (loByte w))
  | .absY w => .absY (cat (hiByte w) (loByte w))
  | m => m

@[simp] theorem rejoined_eq (m : MemOperand) : rejoined m = m := by
  cases m <;> simp only [rejoined, cat_hiByte_loByte]

section
variable {rest : List Byte}

theorem DecodesAs.of_word {f : Word → Instr} (h : ∀ w, DecodesAs rest (f w) (f (cat (hiByte w) (loByte w))))
    (w : Word) : DecodesAs rest (f w) (f w) := by
  simpa only [cat_hiByte_loByte] using h w

theorem DecodesAs.of_mem {f : MemOperand → Instr} (h : ∀ m, DecodesAs rest (f m) (f (rejoined m)))
    (m : MemOperand) : DecodesAs rest (f m) (f m) := by
  simpa only [rejoined_eq] using h m
end

/-- Every term decodes as itself. Each row of the table is evaluated, which leaves an operand word joined from its
bytes. -/
theorem decodesAs_self (rest : List Byte) (i : Instr) : DecodesAs rest i i := by
  cases i with
  | lda o | ldx o | ldy o | adc o | sbc o | and o | ora o | eor o | cmp o | cpx o | cpy o =>
    cases o with
    | imm => rfl
    | mem m => revert m; exact DecodesAs.of_mem fun m => by cases m <;> rfl
  | sta m | stx m | sty m | bit m | inc m | dec m | slo m | rla m | sre m | rra m | sax m | lax m | dcp m | isc m =>
    revert m; exact DecodesAs.of_mem fun m => by cases m <;> rfl
  | asl p | lsr p | rol p | ror p =>
    cases p with
    | acc => rfl
    | mem m => revert m; exact DecodesAs.of_mem fun m => by cases m <;> rfl
  | sha o =>
    cases o with
    | absY w => revert w; exact DecodesAs.of_word fun _ => rfl
    | indY => rfl
  | jmpAbs w | jmpInd w | jsr w | nopAbs w | shx w | shy w | tas w | las w =>
    revert w; exact DecodesAs.of_word fun _ => rfl
  | nopAbsX r w => revert w; cases r <;> exact DecodesAs.of_word fun _ => rfl
  | jam r | nopImplied r | nopImm r | nopZp r | nopZpX r | anc r => cases r <;> rfl
  | _ => rfl

/-- Settles O12: the well-formed case of `decodesAs_self`. -/
theorem decodeOfEncodeIsTheInstruction : Obligations.DecodeOfEncodeIsTheInstruction := by
  intro i rest hi
  exact (decodesAs_self rest i).trans (if_pos hi)

/-- The decoder makes only instructions of the table (R98). -/
theorem decodeOpcode_wellFormed (op b1 b2 : Byte) : (decodeOpcode op b1 b2).wellFormed = true := by
  obtain ⟨aaa, bbb, cc, rfl⟩ := exists_opcodeByte op
  fin_cases aaa <;> fin_cases bbb <;> fin_cases cc <;> rfl

/-- The bytes of a decoded instruction are the opcode byte and as many operand bytes as its row has (R93). Each row is
evaluated with a two-byte operand left as the bytes of the joined word. -/
theorem encode_decodeOpcode (op b1 b2 : Byte) :
    encode (decodeOpcode op b1 b2) = op :: [b1, b2].take (operandCount op) := by
  have hrow : encode (decodeOpcode op b1 b2) = op ::
      if operandCount op = 2 then [loByte (cat b2 b1), hiByte (cat b2 b1)] else [b1, b2].take (operandCount op) := by
    obtain ⟨aaa, bbb, cc, rfl⟩ := exists_opcodeByte op
    fin_cases aaa <;> fin_cases bbb <;> fin_cases cc <;> rfl
  rw [hrow, loByte_cat, hiByte_cat]
  split
  next htwo => rw [htwo]; rfl
  next => rfl

/-- Settles O13: the three bytes are the decoded instruction's bytes and the bytes left over, so `decode` reads them
back. -/
theorem everyOpcodeDecodesAndEncodesBack : Obligations.EveryOpcodeDecodesAndEncodesBack := by
  intro op b1 b2
  have hbytes : encode (decodeOpcode op b1 b2) ++ [b1, b2].drop (operandCount op) = [op, b1, b2] := by
    rw [encode_decodeOpcode, List.cons_append, List.take_append_drop]
  have hwf := decodeOpcode_wellFormed op b1 b2
  have hdecode := decodeOfEncodeIsTheInstruction _ ([b1, b2].drop (operandCount op)) hwf
  rw [hbytes] at hdecode
  exact ⟨_, _, hdecode, hwf, hbytes⟩

/-- Settles O14, by running the decoder on each word. -/
theorem sampleWordsDecodeAsTabled : Obligations.SampleWordsDecodeAsTabled :=
  ⟨rfl, rfl, rfl, rfl, rfl, rfl, rfl, rfl, rfl, rfl, rfl, rfl⟩

end Sys2Proof.Machine
end

section
/-! SUPPORT. Fetches and effective addresses, and the footprint of an instruction: the addresses it stores to, outside
of which memory reads as before. -/

namespace Sys2Proof.Machine

/-- Settles O16: `fetch_eq` is the whole next state, and PC is a 16-bit sum. -/
theorem fetchAdvancesPc : Obligations.FetchAdvancesPc := by
  intro s
  refine ⟨fetch_eq s, fun hpc => ?_⟩
  rw [fetch_eq, State.setPc_pc, hpc]
  rfl

/-! ### Effective addresses -/

/-- `(zp,X)`: the pointer's place is indexed, within the zero page (R131). -/
theorem effAddr_indX (z : Byte) (s : State) :
    (effAddr (.indX z) s).1 = direct (cat (s.ram.read (z + s.x + 1).toNat) (s.ram.read (z + s.x).toNat)) := by
  rw [effAddr, zpPointer_eq]

/-- `(zp),Y`: the pointer is indexed, as an absolute address is (R132). -/
theorem effAddr_indY (z : Byte) (s : State) :
    (effAddr (.indY z) s).1 = indexed (cat (s.ram.read (z + 1).toNat) (s.ram.read z.toNat)) s.y := by
  rw [effAddr, zpPointer_eq]

/-- Settles O31: the two indirect forms by their pointers, the others as `effAddr` defines them; a form whose address is
`direct` never crosses. -/
theorem effectiveAddressesAndPageCrosses : Obligations.EffectiveAddressesAndPageCrosses := by
  intro a z w s
  refine ⟨rfl, rfl, rfl, rfl, rfl, rfl, rfl, rfl, ?_, ⟨?_, ?_⟩, ?_⟩
  · rw [addressOf, effAddr_indX, direct]
  · rw [addressOf, effAddr_indY, indexed]
  · rw [crossedPage, effAddr_indY, indexed]
  · intro m hm
    fin_cases hm <;> rfl

/-! ### What the shared operations leave of memory -/

section
variable (b : Word) (s : State)

@[simp] theorem ownerRead_addToA (m : Byte) : ownerRead b (addToA m s) = ownerRead b s := rfl

@[simp] theorem ownerRead_resultToA (v : Byte) : ownerRead b (resultToA v s) = ownerRead b s := rfl

@[simp] theorem ownerRead_compareWith (reg m : Byte) : ownerRead b (compareWith reg m s) = ownerRead b s := rfl

@[simp] theorem ownerRead_branch (taken : Bool) (off : Byte) : ownerRead b (branch taken off s) = ownerRead b s := by
  cases taken <;> rfl

@[simp] theorem ownerRead_returnFromInterrupt : ownerRead b (returnFromInterrupt s) = ownerRead b s := by
  rw [returnFromInterrupt_eq]; rfl
end

/-- A store keeps every byte but the one at its effective address (R136 kind W). -/
theorem writeMem_sameMemoryBut (m : MemOperand) (v : Byte) (s : State) :
    SameMemoryBut (addressOf m s) s (writeMem m v s) := by
  intro b hb
  rw [writeMem_eq, ownerRead_tick, ownerRead_setOpenBus, ownerRead_ownerWrite_other v s hb]

/-- A store of SHA, SHX, SHY or TAS keeps every byte but the one at the address of R310. -/
theorem writeHigh_sameMemoryBut (m : MemOperand) (r : Byte) (s : State) :
    SameMemoryBut (highStoreAddr r (effAddr m s).1) s (writeHigh m r s) := by
  intro b hb
  rw [writeHigh_eq, ownerRead_tick, ownerRead_setOpenBus, ownerRead_ownerWrite_other _ s hb]

/-- Both writes of a read-modify-write go to its effective address (R137). -/
theorem modifyMem_sameMemoryBut (m : MemOperand) (f : Byte → Byte) (s : State) :
    SameMemoryBut (addressOf m s) s (modifyMem m f s).2 := by
  intro b hb
  rw [modifyMem_eq, ownerRead_tick, ownerRead_setOpenBus, ownerRead_writeBack_other _ _ s hb]

/-- A shift or rotate of memory is a read-modify-write (R137, R230 to R233). -/
theorem shiftPlace_sameMemoryBut (m : MemOperand) (f : Byte → Shifted) (s : State) :
    SameMemoryBut (addressOf m s) s (shiftPlace (.mem m) f s) := by
  intro b hb
  rw [shiftPlace_mem, ownerRead_setFlags, modifyMem_sameMemoryBut m _ s b hb]

/-- The two bytes of a pushed word lie at S and below it (R73). -/
theorem ownerRead_pushWord_other {b : Word} (w : Word) {s : State} (h0 : busDecode b ≠ busDecode (stackAddr s.sp))
    (h1 : busDecode b ≠ busDecode (stackAddr (s.sp - 1))) : ownerRead b (pushWord w s) = ownerRead b s := by
  rw [pushWord, push_sameMemoryBut (loByte w) (push (hiByte w) s) b h1, push_sameMemoryBut (hiByte w) s b h0]

/-- Taking an interrupt stores PC and, below it, the status (R346, R262). -/
theorem ownerRead_takeInterrupt_other {b : Word} (vector : Word) (brk : Bool) {s : State}
    (h0 : busDecode b ≠ busDecode (stackAddr s.sp)) (h1 : busDecode b ≠ busDecode (stackAddr (s.sp - 1)))
    (h2 : busDecode b ≠ busDecode (stackAddr (s.sp - 2))) :
    ownerRead b (takeInterrupt vector brk s) = ownerRead b s := by
  have hsp : (pushWord s.pc s).sp = s.sp - 2 := by rw [pushWord_eq, State.setSp_sp]
  calc ownerRead b (takeInterrupt vector brk s)
      = ownerRead b (push (packP brk s.flags) (pushWord s.pc s)) := rfl
    _ = ownerRead b (pushWord s.pc s) := push_sameMemoryBut _ _ b (hsp ▸ h2)
    _ = ownerRead b s := ownerRead_pushWord_other s.pc h0 h1

/-! ### The footprint of an instruction -/

/-- The addresses an instruction stores to: its operand's effective address (R136, R137), the address of R310, or the
stack bytes S designates (R70, R73). -/
def storedAddresses (i : Instr) (s : State) : List Word :=
  match i with
  | .sta m | .stx m | .sty m | .sax m | .inc m | .dec m | .asl (.mem m) | .lsr (.mem m) | .rol (.mem m) | .ror (.mem m)
  | .slo m | .rla m | .sre m | .rra m | .dcp m | .isc m => [addressOf m s]
  | .sha o => [highStoreAddr (s.a &&& s.x) (effAddr (shaForm o) s).1]
  | .shx w => [highStoreAddr s.x (effAddr (.absY w) s).1]
  | .shy w => [highStoreAddr s.y (effAddr (.absX w) s).1]
  | .tas w => [highStoreAddr (s.a &&& s.x) (effAddr (.absY w) s).1]
  | .pha | .php => [stackAddr s.sp]
  | .jsr _ => [stackAddr s.sp, stackAddr (s.sp - 1)]
  | .brk _ => [stackAddr s.sp, stackAddr (s.sp - 1), stackAddr (s.sp - 2)]
  | _ => []

/-- No instruction changes a byte but those it stores. -/
theorem exec_keeps_other_bytes {i : Instr} {s t : State} {b : Word} (h : exec i s = .next t)
    (hb : ∀ a ∈ storedAddresses i s, busDecode b ≠ busDecode a) : ownerRead b t = ownerRead b s := by
  cases i with
  | lda | ldx | ldy | adc | sbc | and | ora | eor | cmp | cpx | cpy | sbcEB => cases h; simp [readSource_eq]
  | bit | lax | las | nopZp | nopZpX | nopAbs | nopAbsX => cases h; simp [readMem_eq]
  | sta m | stx m | sty m | sax m => cases h; exact writeMem_sameMemoryBut m _ s b (hb _ (.head _))
  | sha | shx | shy => cases h; exact writeHigh_sameMemoryBut _ _ s b (hb _ (.head _))
  | tas w => cases h; exact writeHigh_sameMemoryBut (.absY w) _ (s.setSp _) b (hb _ (.head _))
  | inc m | dec m | slo m | rla m | sre m | rra m | dcp m | isc m =>
    have hm := fun f => modifyMem_sameMemoryBut m f s b (hb _ (.head _))
    cases h; simp [hm]
  | asl p | lsr p | rol p | ror p =>
    cases h
    cases p with
    | acc => rfl
    | mem m => exact shiftPlace_sameMemoryBut m _ s b (hb _ (.head _))
  | pha | php => cases h; exact push_sameMemoryBut _ s b (hb _ (.head _))
  | jsr => cases h; exact ownerRead_pushWord_other s.pc (hb _ (.head _)) (hb _ (.tail _ (.head _)))
  | brk =>
    have hframe := ownerRead_takeInterrupt_other irqVector true (hb _ (.head _)) (hb _ (.tail _ (.head _)))
      (hb _ (.tail _ (.tail _ (.head _))))
    cases h; rw [ownerRead_tick, hframe]
  | pla | plp | rts | rti => cases h; simp [pull_eq, pullWord_eq]
  | bcc | bcs | beq | bne | bmi | bpl | bvc | bvs => cases h; simp
  | tax | tay | txa | tya | tsx | txs | inx | iny | dex | dey | jmpAbs | jmpInd | clc | sec | cli | sei | cld | sed
  | clv | nop | jam | nopImplied | nopImm | anc | alr | arr | ane | lxa | sbx => cases h; simp [jumpPointer_eq]

/-- Settles O56: the listed forms are those with an empty footprint. -/
theorem formsThatStoreNothingKeepMemory : Obligations.FormsThatStoreNothingKeepMemory := by
  intro o m w b j n ni nz an i s t hi h
  have hnone : storedAddresses i s = [] := by fin_cases hi <;> rfl
  exact fun _ => exec_keeps_other_bytes h (by simp [hnone])

/-- An instruction that stores at one address keeps every byte but that one. -/
theorem exec_sameMemoryBut {i : Instr} {s t : State} {a : Word} (h : exec i s = .next t)
    (ha : storedAddresses i s = [a]) : SameMemoryBut a s t :=
  fun _ hb => exec_keeps_other_bytes h (by simpa [ha] using hb)

/-- Settles O57: each clause names the footprint of its instructions. -/
theorem storesTouchOnlyTheirBytes : Obligations.StoresTouchOnlyTheirBytes := by
  intro m o w pad i s t h
  refine ⟨fun hi => exec_sameMemoryBut h (by fin_cases hi <;> rfl), fun hi => exec_sameMemoryBut h (hi ▸ rfl),
    fun hi => exec_sameMemoryBut h (hi ▸ rfl), fun hi => exec_sameMemoryBut h (hi ▸ rfl),
    fun hi => exec_sameMemoryBut h (hi ▸ rfl), fun hi => exec_sameMemoryBut h (by fin_cases hi <;> rfl), ?_, ?_⟩
  · rintro rfl b h0 h1
    exact exec_keeps_other_bytes h (List.forall_mem_cons.2 ⟨h0, List.forall_mem_singleton.2 h1⟩)
  · rintro rfl b h0 h1 h2
    exact exec_keeps_other_bytes h
      (List.forall_mem_cons.2 ⟨h0, List.forall_mem_cons.2 ⟨h1, List.forall_mem_singleton.2 h2⟩⟩)

end Sys2Proof.Machine
end

section
/-! SUPPORT. Loads, stores and transfers as whole next states. -/

namespace Sys2Proof.Machine

/-- Counting cycles in two parts: a form's base cycles, then its page-cross surcharge (R135). -/
theorem State.tick_add (j k : Nat) (s : State) : s.tick (j + k) = (s.tick j).tick k := by
  simp only [State.tick, Nat.add_assoc]

/-- Settles O32: the operand read is `readSource_eq` or, for LAX and LAS, `readMem_eq`; each load then writes its
registers, Z and N. -/
theorem loadsReadTheirOperand : Obligations.LoadsReadTheirOperand := by
  intro o m w s
  refine ⟨⟨?lda, ?ldx, ?ldy⟩, ?lax, ?las⟩
  case lda => rw [exec_lda, execLda, readSource_eq]; rfl
  case ldx => rw [exec_ldx, execLdx, readSource_eq]; rfl
  case ldy => rw [exec_ldy, execLdy, readSource_eq]; rfl
  case lax => rw [exec_lax, execLax, readMem_eq, State.tick_add]; rfl
  case las => rw [exec_las, execLas, readMem_eq, State.tick_add]; rfl

/-- The state a store leaves, counted from the state it starts in (R136 kind W, R397). -/
theorem writeMem_eq_stored (m : MemOperand) (v : Byte) (s : State) :
    writeMem m v s =
      { ownerWrite (addressOf m s) v s with openBus := v, cycles := s.cycles + writeCycles m } := by
  rw [writeMem_eq, State.tick, State.setOpenBus_cycles, ownerWrite_cycles]
  rfl

/-- Settles O33: the four stores are one `writeMem` of a byte of their own, and `writeMem` keeps every other byte. -/
theorem storesWriteTheirRegister : Obligations.StoresWriteTheirRegister := by
  intro m s stored
  have hstored (v : Byte) : writeMem m v s = stored v := writeMem_eq_stored m v s
  refine ⟨congrArg _ (hstored s.a), congrArg _ (hstored s.x), congrArg _ (hstored s.y),
    congrArg _ (hstored (s.a &&& s.x)), fun v => ?_⟩
  rw [← hstored v]
  exact writeMem_sameMemoryBut m v s

/-- Settles O34: none of the ten reads memory, so each is the record update its definition writes, and its encoding is
its opcode byte. -/
theorem registerInstructionsWriteOneRegister : Obligations.RegisterInstructionsWriteOneRegister :=
  fun _ => ⟨rfl, rfl, rfl, rfl, rfl, rfl, rfl, rfl, rfl, rfl, rfl⟩

end Sys2Proof.Machine
end

section
/-! SUPPORT. The stack instructions as whole next states. -/

namespace Sys2Proof.Machine

/-- The state a push instruction leaves, counted from the state it starts in (R70, R180, R181). -/
theorem push_tick_eq_pushed (v : Byte) (k : Nat) (s : State) :
    (push v s).tick k =
      { ownerWrite (stackAddr s.sp) v s with sp := s.sp - 1, openBus := v, cycles := s.cycles + k } := by
  rw [push_eq, State.tick, State.setSp_cycles, State.setOpenBus_cycles, ownerWrite_cycles]
  rfl

/-- Settles O35: PHA and PHP are one push of a byte of their own, which a canonical RAM reads back; PLA and PLP are one
pull and their own flag rule. -/
theorem stackInstructionsPushAndPull : Obligations.StackInstructionsPushAndPull := by
  intro s pushed v
  have hpushed (w : Byte) : (push w s).tick 3 = pushed w := push_tick_eq_pushed w 3 s
  refine ⟨congrArg _ (hpushed s.a), congrArg _ (hpushed (packP true s.flags)), ?readBack, ?pla, ?plp, rfl⟩
  case readBack =>
    rintro ⟨hwf, -⟩ w
    rw [← hpushed w]
    exact stackByte_push_same w hwf
  case pla => rw [exec_pla, execPla, pull_eq]; rfl
  case plp => rw [exec_plp, execPlp, pull_eq]; rfl

end Sys2Proof.Machine
end

section
/-! SUPPORT. Addition and subtraction with the carry as arithmetic, and the arithmetic and logic instructions as whole
next states. -/

namespace Sys2Proof.Machine

/-! ### The sum with the carry -/

/-- Bit 7 of a byte is its sign bit. -/
theorem getLsbD_seven_eq_decide (v : Byte) : v.getLsbD 7 = decide (128 ≤ v.toNat) := BitVec.msb_eq_decide v

/-- V of R190 is set where both summands have the sign bit that the result has not. -/
theorem overflow_bit_iff (a m r : Byte) :
    ((a ^^^ r) &&& (m ^^^ r)).getLsbD 7 = true ↔
      (128 ≤ a.toNat ↔ 128 ≤ m.toNat) ∧ ¬(128 ≤ a.toNat ↔ 128 ≤ r.toNat) := by
  rw [BitVec.getLsbD_and, BitVec.getLsbD_xor, BitVec.getLsbD_xor, getLsbD_seven_eq_decide, getLsbD_seven_eq_decide,
    getLsbD_seven_eq_decide]
  by_cases ha : 128 ≤ a.toNat <;> by_cases hm : 128 ≤ m.toNat <;> by_cases hr : 128 ≤ r.toNat <;> simp [ha, hm, hr]

/-- The overflow of a sum is that its signed value does not fit in a byte (R190). -/
theorem addWithCarry_overflow_iff (a m : Byte) (c : Bool) :
    (addWithCarry a m c).overflow = true ↔
      a.toInt + m.toInt + (c.toNat : Int) < -128 ∨ 127 < a.toInt + m.toInt + (c.toNat : Int) := by
  have hc := c.toNat_le
  rw [addWithCarry, overflow_bit_iff, BitVec.toNat_ofNat, BitVec.toInt_eq_toNat_cond, BitVec.toInt_eq_toNat_cond]
  split_ifs <;> omega

/-- Settles O38: the sum is narrowed by definition, and V is its signed overflow. -/
theorem addWithCarryNarrowsTheExactSum : Obligations.AddWithCarryNarrowsTheExactSum := fun a m c =>
  ⟨rfl, addWithCarry_overflow_iff a m c⟩

/-- The sum with the complement is the difference with the borrow `1 - C`: its value, "no borrow" as its carry, and the
overflow of the signed difference (R193). -/
theorem addWithCarry_not (a m : Byte) (c : Bool) :
    addWithCarry a (~~~m) c =
      { value := a - m - BitVec.ofNat 8 (!c).toNat
        carry := decide (a.toNat ≥ m.toNat + (!c).toNat)
        overflow := ((a ^^^ m) &&& (a ^^^ (a - m - BitVec.ofNat 8 (!c).toNat))).getLsbD 7 } := by
  have hnot : (~~~m).toNat = 255 - m.toNat := BitVec.toNat_not
  have hborrow : (!c).toNat = 1 - c.toNat := by cases c <;> rfl
  have hc := c.toNat_le
  have hvalue : BitVec.ofNat 8 (a.toNat + (~~~m).toNat + c.toNat) = a - m - BitVec.ofNat 8 (!c).toNat := by
    apply BitVec.eq_of_toNat_eq
    rw [BitVec.toNat_sub, BitVec.toNat_sub, BitVec.toNat_ofNat, BitVec.toNat_ofNat]
    omega
  have hcarry : 256 ≤ a.toNat + (~~~m).toNat + c.toNat ↔ a.toNat ≥ m.toNat + (!c).toNat := by omega
  have hoverflow (r : Byte) : ((a ^^^ r) &&& (~~~m ^^^ r)).getLsbD 7 = ((a ^^^ m) &&& (a ^^^ r)).getLsbD 7 := by
    simp only [BitVec.getLsbD_and, BitVec.getLsbD_xor, BitVec.getLsbD_not]
    cases a.getLsbD 7 <;> cases m.getLsbD 7 <;> cases r.getLsbD 7 <;> rfl
  simp only [addWithCarry, hvalue, hcarry, hoverflow]

/-! ### Instructions that read an operand -/

/-- Settles O36: `readSource_eq`, then the sum and its flags as `addWithCarry` defines them. -/
theorem adcAddsWithCarry : Obligations.AdcAddsWithCarry := by
  intro o s
  rw [exec_adc, execAdc, readSource_eq]
  rfl

/-- Settles O37: SBC adds the complement, which is the difference with the borrow; $EB is the same meaning on an
immediate. -/
theorem sbcSubtractsWithBorrow : Obligations.SbcSubtractsWithBorrow := by
  intro o s
  refine ⟨?sbc, fun b => ⟨rfl, _, rfl⟩⟩
  case sbc =>
    rw [exec_sbc, execSbc, readSource_eq]
    dsimp only [addToA]
    rw [addWithCarry_not]
    rfl

/-- Settles O39: each of the three reads its operand and puts its own bitwise result in A. -/
theorem logicOperationsCombineWithA : Obligations.LogicOperationsCombineWithA := by
  intro o s
  refine ⟨?and, ?ora, ?eor⟩
  case and => rw [exec_and, execAnd, readSource_eq]; rfl
  case ora => rw [exec_ora, execOra, readSource_eq]; rfl
  case eor => rw [exec_eor, execEor, readSource_eq]; rfl

/-- Settles O40: the three compares are one `compareWith` of the operand read and a register of their own. -/
theorem comparesWriteOnlyCarryZeroNegative : Obligations.ComparesWriteOnlyCarryZeroNegative := by
  intro o s
  refine ⟨?cmp, ?cpx, ?cpy⟩
  case cmp => rw [exec_cmp, execCmp, readSource_eq]; rfl
  case cpx => rw [exec_cpx, execCpx, readSource_eq]; rfl
  case cpy => rw [exec_cpy, execCpy, readSource_eq]; rfl

/-- Settles O41: `readMem_eq`, then the three flags of `Flags.setBit`. -/
theorem bitTestsTheOperand : Obligations.BitTestsTheOperand := by
  intro m s
  rw [exec_bit, execBit, readMem_eq, State.tick_add]
  rfl

/-! ### Read-modify-write -/

/-- The byte a read-modify-write reads and the state it leaves, counted from the state it starts in (R137, R397). -/
theorem modifyMem_eq_modified (m : MemOperand) (f : Byte → Byte) (s : State) :
    modifyMem m f s =
      (memValue m s,
        { writeBack (addressOf m s) (memValue m s) (f (memValue m s)) s with
          openBus := f (memValue m s), cycles := s.cycles + modifyCycles m }) := by
  rw [modifyMem_eq, State.tick, State.setOpenBus_cycles, writeBack_cycles]
  rfl

/-- Settles O42: both are one read-modify-write with Z and N of the new byte, and its two writes go to the effective
address. -/
theorem incAndDecModifyMemory : Obligations.IncAndDecModifyMemory := by
  intro m s old modified
  have hmodified (f : Byte → Byte) :
      State.setNZ (f (modifyMem m f s).1) (modifyMem m f s).2 = modified (f old) := by
    rw [modifyMem_eq_modified, State.setNZ, writeBack_flags]
    rfl
  exact ⟨congrArg _ (hmodified (· + 1)), congrArg _ (hmodified (· - 1)),
    fun new _ hb => ownerRead_writeBack_other old new s hb⟩

end Sys2Proof.Machine
end

section
/-! SUPPORT. The rotates as arithmetic on the value and the old carry, and the shifts and rotates as whole next states. -/

namespace Sys2Proof.Machine

/-! ### The old carry moves into the bit that the shift clears -/

/-- The carry goes into bit 0, which the shift left clears: the value is twice the byte plus the carry (R232). -/
theorem rotateLeft_value (c : Bool) (v : Byte) :
    (rotateLeft c v).value = BitVec.ofNat 8 (2 * v.toNat + c.toNat) := by
  have hbit : bitAt c 0 = BitVec.ofNat 8 c.toNat := by cases c <;> rfl
  have hclear : v <<< 1 &&& bitAt c 0 = 0 := by
    cases c
    case false => exact BitVec.and_zero
    case true => ext j; cases j <;> simp [bitAt]
  calc (rotateLeft c v).value
      _ = (shiftLeft v).value + bitAt c 0 := (BitVec.add_eq_or_of_and_eq_zero _ _ hclear).symm
      _ = BitVec.ofNat 8 (2 * v.toNat + c.toNat) := by rw [shiftLeft_value, hbit, BitVec.ofNat_add]

/-- The carry goes into bit 7, which the shift right clears: the value is half the byte plus 128 for the carry
(R233). -/
theorem rotateRight_value (c : Bool) (v : Byte) :
    (rotateRight c v).value = BitVec.ofNat 8 (v.toNat / 2 + 128 * c.toNat) := by
  have hbit : bitAt c 7 = BitVec.ofNat 8 (128 * c.toNat) := by cases c <;> rfl
  have hclear : v >>> 1 &&& bitAt c 7 = 0 := by
    cases c
    case false => exact BitVec.and_zero
    case true => ext j hj; interval_cases j <;> simp [bitAt]
  calc (rotateRight c v).value
      _ = (shiftRight v).value + bitAt c 7 := (BitVec.add_eq_or_of_and_eq_zero _ _ hclear).symm
      _ = BitVec.ofNat 8 (v.toNat / 2 + 128 * c.toNat) := by rw [shiftRight_value, hbit, BitVec.ofNat_add]

/-! ### The four instructions -/

/-- Settles O43: the four are one `shiftPlace` of a byte-to-`Shifted` function of their own, whose value is arithmetic
and whose carry is the bit shifted out by definition. -/
theorem shiftsMoveOneBit : Obligations.ShiftsMoveOneBit := by
  intro m s done inA inMem left right k v
  have hacc (f : Byte → Shifted) {r : Byte} (hr : (f s.a).value = r) :
      (.next (shiftPlace .acc f s) : Outcome) = .next (inA r (f s.a).carry) := by
    rw [shiftPlace_acc, ← hr]
    rfl
  have hmem (f : Byte → Shifted) {r : Byte} (hr : (f v).value = r) :
      (.next (shiftPlace (.mem m) f s) : Outcome) = .next (inMem r (f v).carry) := by
    rw [shiftPlace_mem, modifyMem_eq_modified, ← hr]
    rfl
  exact ⟨hacc shiftLeft (shiftLeft_value s.a), hmem shiftLeft (shiftLeft_value v),
    hacc (rotateLeft s.flags.c) (rotateLeft_value _ s.a), hmem (rotateLeft s.flags.c) (rotateLeft_value _ v),
    hacc shiftRight (shiftRight_value s.a), hmem shiftRight (shiftRight_value v),
    hacc (rotateRight s.flags.c) (rotateRight_value _ s.a), hmem (rotateRight s.flags.c) (rotateRight_value _ v)⟩

end Sys2Proof.Machine
end

section
/-! SUPPORT. Jumps, subroutines, returns, branches, BRK, flag instructions and NOPs as whole next states, and a word
pulled from the stack it was pushed on. -/

namespace Sys2Proof.Machine

/-! ### Subroutines -/

/-- A stack byte is a byte of RAM (R39). -/
theorem stackByte_ram_congr {s t : State} (p : Byte) (h : t.ram = s.ram) : stackByte p t = stackByte p s :=
  congrArg (Memory.read · _) h

/-- A pushed word is read back, its high byte where S stood and its low byte below it (R73). -/
theorem stackByte_pushWord (w : Word) {s : State} (hs : s.Inv) :
    stackByte s.sp (pushWord w s) = hiByte w ∧ stackByte (s.sp - 1) (pushWord w s) = loByte w := by
  obtain ⟨hwf', -⟩ := (push_onlyStores (hiByte w) s).keeps_inv hs
  obtain ⟨hwf, -⟩ := hs
  have hne : s.sp ≠ s.sp - 1 := by bv_omega
  constructor
  case left => rw [pushWord, stackByte_push_other (loByte w) hne, stackByte_push_same (hiByte w) hwf]
  case right => exact stackByte_push_same (loByte w) hwf'

/-- A state with the stack that a pushed word left pulls that word, and S stands as before the push (R73, R252). -/
theorem pullWord_of_pushWord (w : Word) {s u : State} (hs : s.Inv) (hsp : u.sp = (pushWord w s).sp)
    (hram : u.ram = (pushWord w s).ram) : (pullWord u).1 = w ∧ (pullWord u).2.sp = s.sp := by
  obtain ⟨hhi, hlo⟩ := stackByte_pushWord w hs
  have h1 : u.sp + 1 = s.sp - 1 := by rw [hsp, pushWord_eq, State.setSp_sp]; bv_omega
  have h2 : u.sp + 2 = s.sp := by rw [hsp, pushWord_eq, State.setSp_sp]; bv_omega
  rw [pullWord_eq, h1, h2, stackByte_ram_congr _ hram, stackByte_ram_congr _ hram, hhi, hlo, cat_hiByte_loByte]
  exact ⟨rfl, rfl⟩

/-- Settles O30: JSR's own read changes neither S nor RAM, so the word that RTS pulls is the one JSR pushed. -/
theorem rtsReturnsAfterTheJsr : Obligations.RtsReturnsAfterTheJsr := by
  intro w s t u hs h hsp hram
  have hjsr : t.sp = (pushWord s.pc s).sp ∧ t.ram = (pushWord s.pc s).ram := by cases h; exact ⟨rfl, rfl⟩
  obtain ⟨hpulled, hback⟩ := pullWord_of_pushWord s.pc hs (hsp.trans hjsr.1) (hram.trans hjsr.2)
  exact ⟨_, rfl, congrArg (· + 1) hpulled, hback⟩

/-- Settles O45: `pushWord` is the two writes, and the byte at PC is then read over the latch they left. -/
theorem jsrPushesThenReadsItsHighByte : Obligations.JsrPushesThenReadsItsHighByte := by
  intro w s pushed h
  have hpushed : pushWord s.pc s = { pushed with sp := s.sp - 2, openBus := loByte s.pc } := pushWord_eq s.pc s
  have hpc : (pushWord s.pc s).pc = s.pc := by simp [pushWord_eq]
  have hcycles : pushed.cycles = s.cycles := by simp [pushed]
  rw [exec_jsr, execJsr, hpc, hpushed, ← hcycles]
  rfl

/-- Settles O46: RTS pulls one word, RTI the frame of an interrupt. -/
theorem returnsPullPc : Obligations.ReturnsPullPc := by
  intro s
  refine ⟨?rts, ?rti, rfl, rfl⟩
  case rts => rw [exec_rts, execRts, pullWord_eq]; rfl
  case rti => rw [exec_rti, execRti, returnFromInterrupt_eq]; rfl

/-! ### Jumps and branches -/

/-- Settles O44: a jump sets PC to its operand or to the word that `jumpPointer_eq` reads. -/
theorem jmpLoadsPc : Obligations.JmpLoadsPc := by
  intro w s
  refine ⟨rfl, ?ind⟩
  case ind => rw [exec_jmpInd, execJmpInd, jumpPointer_eq]; rfl

/-- The target of a branch is the signed sum modulo 65536 (R253). -/
theorem add_sext16_eq_ofInt (pc : Word) (off : Byte) :
    pc + sext16 off = BitVec.ofInt 16 (pc.toNat + off.toInt) := by
  rw [BitVec.ofInt_add, BitVec.ofInt_natCast, BitVec.ofNat_toNat, BitVec.setWidth_eq]
  rfl

/-- All a branch can do: PC and the cycles where it is taken, the cycles alone where it is not (R253). -/
theorem branch_eq (cond : Bool) (off : Byte) (s : State) :
    branch cond off s =
      (let target := BitVec.ofInt 16 (s.pc.toNat + off.toInt)
       if cond then { s with pc := target, cycles := s.cycles + (if hiByte target = hiByte s.pc then 3 else 4) }
       else { s with cycles := s.cycles + 2 }) := by
  have hcycles (p q : Byte) : 2 + (1 + (p != q).toNat) = if p = q then 3 else 4 := by
    split
    case isTrue h => rw [h, bne_self_eq_false]; rfl
    case isFalse h => rw [bne_iff_ne.2 h]; rfl
  cases cond with
  | false => rfl
  | true => rw [branch, add_sext16_eq_ofInt, if_pos rfl, hcycles]; rfl

/-- Settles O47: the eight are one `branch_eq`, four on a flag that is set and four on one that is clear. -/
theorem branchesFollowTheirCondition : Obligations.BranchesFollowTheirCondition := by
  intro off s target taken result
  have hset (flag : Bool) : branch flag off s = result (flag == true) := by
    rw [beq_true]; exact branch_eq flag off s
  have hclear (flag : Bool) : branch (!flag) off s = result (flag == false) := by
    rw [beq_false]; exact branch_eq (!flag) off s
  exact ⟨congrArg _ (hclear s.flags.c), congrArg _ (hset s.flags.c), congrArg _ (hclear s.flags.z),
    congrArg _ (hset s.flags.z), congrArg _ (hclear s.flags.n), congrArg _ (hset s.flags.n),
    congrArg _ (hclear s.flags.v), congrArg _ (hset s.flags.v)⟩

/-! ### BRK -/

/-- The whole next state of BRK (R262). -/
theorem exec_brk_eq (pad : Byte) (s : State) :
    exec (.brk pad) s = .next { frameWritten true s with
      sp := s.sp - 3, flags := { s.flags with i := true }, openBus := prgByte 0xFFFF s
      pc := cat (prgByte 0xFFFF s) (prgByte 0xFFFE s), cycles := s.cycles + 7 } := by
  rw [exec_brk, execBrk, takeInterrupt_eq (by decide) (by decide), frameWritten_eq]
  rfl

/-- Settles O48: BRK takes an interrupt through the IRQ vector, and a canonical RAM reads the frame back. -/
theorem brkPushesAndVectors : Obligations.BrkPushesAndVectors := by
  intro pad s
  refine ⟨exec_brk_eq pad s, fun t hs h => ?readBack⟩
  case readBack =>
    obtain ⟨hwf, -⟩ := hs
    rw [exec_brk_eq] at h
    cases h
    exact stackByte_frameWritten true s hwf

/-! ### Flag instructions and NOPs -/

/-- Settles O49: each is the update of one flag that its definition writes, and its encoding is its opcode byte. -/
theorem flagInstructionsWriteOneFlag : Obligations.FlagInstructionsWriteOneFlag :=
  fun _ => ⟨rfl, rfl, rfl, rfl, rfl, rfl, rfl, rfl⟩

/-- The state a memory read leaves, counted from the state it starts in (R136 kind R, R135). -/
theorem readMem_snd_eq_read (m : MemOperand) (s : State) :
    (readMem m s).2 =
      { s with openBus := memValue m s, cycles := s.cycles + readCycles m + (crossedPage m s).toNat } := by
  rw [readMem_eq, State.tick_add]
  rfl

/-- Settles O50: three NOPs only count two cycles, and a memory NOP is the read of its operand. -/
theorem nopsOnlyPassTime : Obligations.NopsOnlyPassTime := by
  intro r ri rz b w s idle reads
  have hreads (m : MemOperand) : (readMem m s).2 = reads m (readCycles m) := readMem_snd_eq_read m s
  exact ⟨rfl, rfl, rfl, congrArg Host.Outcome.next (hreads (.zp b)), congrArg Host.Outcome.next (hreads (.zpX b)),
    congrArg Host.Outcome.next (hreads (.abs w)), congrArg Host.Outcome.next (hreads (.absX w))⟩

end Sys2Proof.Machine
end

section
/-! SUPPORT. The undocumented operations as whole next states: a read-modify-write joined to an ALU operation on A, the
immediate combinations, and the stores of a register AND the high byte plus one. -/

namespace Sys2Proof.Machine

/-! ### Read-modify-write joined to an operation on A -/

/-- A double write changes nothing but RAM (R137, R53). -/
theorem writeBack_only_sets_ram (a : Word) (old new : Byte) (s : State) :
    ∃ ram, writeBack a old new s = s.setRam ram := by
  simp only [writeBack, ownerWrite_eq]
  exact ⟨_, rfl⟩

/-- Settles O51: the three are one read-modify-write by a shift whose value is arithmetic; C stays the shift's, and Z
and N become A's. -/
theorem shiftAndCombineOperations : Obligations.ShiftAndCombineOperations := by
  intro m s v k result left
  have hcombine (f : Byte → Shifted) (op : Byte → Byte → Byte) {new : Byte} (hnew : (f v).value = new) :
      (let r := modifyMem m (fun u => (f u).value) s
       (.next (resultToA (op s.a (f r.1).value) (r.2.setFlags (r.2.flags.setShifted (f r.1)))) : Outcome)) =
        .next (result new (op s.a new) (f v).carry) := by
    rw [modifyMem_eq_modified, ← hnew]
    dsimp only
    rw [writeBack_flags]
    rfl
  exact ⟨hcombine shiftLeft (· ||| ·) (shiftLeft_value v),
    hcombine (rotateLeft s.flags.c) (· &&& ·) (rotateLeft_value _ v),
    hcombine shiftRight (· ^^^ ·) (shiftRight_value v)⟩

/-- Settles O52: RRA adds the rotated byte with the carry the rotate left, DCP compares the decremented one, and ISC
adds the complement of the incremented one, which is the difference with the borrow. -/
theorem modifyAndComputeOperations : Obligations.ModifyAndComputeOperations := by
  intro m s v borrow turned total sum r
  refine ⟨?rra, ?dcp, ?isc⟩
  case rra =>
    have hturned : (rotateRight s.flags.c v).value = turned := rotateRight_value _ v
    obtain ⟨ram, hram⟩ := writeBack_only_sets_ram (addressOf m s) v turned s
    rw [exec_rra, execRra, modifyMem_eq_modified, hturned, hram]
    rfl
  case dcp =>
    obtain ⟨ram, hram⟩ := writeBack_only_sets_ram (addressOf m s) v (v - 1) s
    rw [exec_dcp, execDcp, modifyMem_eq_modified, hram]
    rfl
  case isc =>
    obtain ⟨ram, hram⟩ := writeBack_only_sets_ram (addressOf m s) v (v + 1) s
    rw [exec_isc, execIsc, modifyMem_eq_modified, hram]
    dsimp only [addToA]
    rw [addWithCarry_not]
    rfl

/-! ### Immediate combinations -/

/-- Settles O53: each is the record update its definition writes, with the shift or rotate as arithmetic. -/
theorem immediateCombinations : Obligations.ImmediateCombinations := by
  intro row b s t u half turned
  have hhalf : (shiftRight t).value = half := shiftRight_value t
  have hturned : (rotateRight s.flags.c t).value = turned := rotateRight_value _ t
  refine ⟨rfl, ?alr, ?arr, rfl, rfl⟩
  case alr => rw [← hhalf]; rfl
  case arr => rw [← hturned]; rfl

/-- With A = $FF the OR hides any constant (R306, R307). -/
theorem or_of_eq_ff {a : Byte} (m : Byte) (ha : a = 0xFF) : a ||| m = 0xFF := by
  rw [ha]; exact BitVec.allOnes_or

/-- Settles O54: both are a result put in A by definition; an operand $00 clears the AND, and A = $FF fills the OR. -/
theorem unstableImmediatesUseTheOpenConstants : Obligations.UnstableImmediatesUseTheOpenConstants := by
  intro b s
  refine ⟨⟨rfl, ?aneZero, ?aneOnes⟩, ⟨rfl, ?lxaZero, ?lxaOnes⟩, rfl, rfl⟩
  case aneZero => rintro rfl; exact BitVec.and_zero
  case aneOnes => intro ha; rw [or_of_eq_ff _ ha]; exact congrArg (· &&& b) BitVec.allOnes_and
  case lxaZero => rintro rfl; exact BitVec.and_zero
  case lxaOnes => intro ha; rw [or_of_eq_ff _ ha]; exact BitVec.allOnes_and

/-! ### Stores of a register AND the high byte plus one -/

/-- The address of R310 for an indexed form: `ea` within the page, the value as its high byte on a page cross. -/
theorem highStoreAddr_indexed (base : Word) (index r : Byte) :
    highStoreAddr r (indexed base index) =
      (let ea := base + zext16 index
       if hiByte ea = hiByte base then ea else cat (r &&& (hiByte base + 1)) (loByte ea)) := by
  simp only [highStoreAddr, indexed, highStoreValue, bne_iff_ne, ite_not]

/-- The state a store of R310 leaves, counted from the state it starts in. -/
theorem writeHigh_eq_stored {m : MemOperand} {base : Word} {index : Byte} {s : State} (r : Byte)
    (hm : (effAddr m s).1 = indexed base index) :
    writeHigh m r s =
      { ownerWrite (highStoreAddr r (indexed base index)) (r &&& (hiByte base + 1)) s with
        openBus := r &&& (hiByte base + 1), cycles := s.cycles + writeCycles m } := by
  rw [writeHigh_eq, hm, State.tick, State.setOpenBus_cycles, ownerWrite_cycles]
  rfl

/-- A write does not depend on S. -/
theorem ownerWrite_setSp (a : Word) (v p : Byte) (s : State) :
    ownerWrite a v (s.setSp p) = (ownerWrite a v s).setSp p := by
  rw [ownerWrite_eq, ownerWrite_eq]
  rfl

/-- Settles O55: the five forms are one `writeHigh` of an indexed address, and TAS sets S before a store that does not
depend on it. -/
theorem highByteStores : Obligations.HighByteStores := by
  intro o z w s stores
  have hstores {m : MemOperand} {base : Word} {index : Byte} (r : Byte)
      (hm : (effAddr m s).1 = indexed base index) : writeHigh m r s = stores base index r (writeCycles m) := by
    rw [writeHigh_eq_stored r hm, highStoreAddr_indexed]
  refine ⟨?sha, congrArg _ (hstores s.x rfl), congrArg _ (hstores s.y rfl), ?tas, rfl⟩
  case sha =>
    cases o with
    | absY w => exact congrArg _ (hstores _ rfl)
    | indY z => exact congrArg _ (hstores _ (effAddr_indY z s))
  case tas =>
    have hset : writeHigh (.absY w) (s.a &&& s.x) (s.setSp (s.a &&& s.x)) =
        (writeHigh (.absY w) (s.a &&& s.x) s).setSp (s.a &&& s.x) := by
      rw [writeHigh_eq, writeHigh_eq, ownerWrite_setSp]
      rfl
    rw [exec_tas, execTas, hset, hstores _ rfl]
    rfl

end Sys2Proof.Machine
end

section
/-! SUPPORT. One step of the machine: every state has one, a boundary that takes it, and the instruction that a quiet
step fetches and runs. -/

namespace Sys2Proof.Machine

open Sys2Proof.Laws.Encoding (exists_opcodeByte)

/-! ### Every state steps -/

/-- Every instruction has a next state: no meaning faults (R340, R51) and none is missing (R98). -/
theorem exec_total (i : Instr) (s : State) : ∃ t, exec i s = .next t := by
  cases i <;> exact ⟨_, rfl⟩

/-- What happens at a boundary is the whole step (R341). -/
theorem step_of_boundary {s t : State} (h : boundary s = some t) : step s = .next t := by
  rw [step, h]

/-- A quiet step retires the instruction it fetches (R341, R345). -/
theorem step_of_exec {s u : State} (hq : s.Quiet) (hu : exec (fetchInstr s).1 (fetchInstr s).2 = .next u) :
    step s = .next (retire (fetchInstr s).1 s u) := by
  rw [step_quiet hq, hu]

/-- All that a quiet step can do. -/
theorem step_quiet_cases {s t : State} (hq : s.Quiet) (h : step s = .next t) :
    ∃ u, exec (fetchInstr s).1 (fetchInstr s).2 = .next u ∧ t = retire (fetchInstr s).1 s u := by
  obtain ⟨u, hu⟩ := exec_total (fetchInstr s).1 (fetchInstr s).2
  rw [step_of_exec hq hu] at h
  cases h
  exact ⟨u, hu, rfl⟩

/-- Settles O17: a boundary answers a state by itself, and a quiet step runs an instruction, which always has a next
state. -/
theorem everyStateIsSafe : Obligations.EveryStateIsSafe := by
  intro s
  rcases boundary_cases s with ⟨-, hb⟩ | ⟨-, -, hb⟩ | ⟨-, -, -, -, hb⟩ | ⟨hq, -⟩
  · exact ⟨_, step_of_boundary hb⟩
  · exact ⟨_, step_of_boundary hb⟩
  · exact ⟨_, step_of_boundary hb⟩
  · obtain ⟨u, hu⟩ := exec_total (fetchInstr s).1 (fetchInstr s).2
    exact ⟨_, step_of_exec hq hu⟩

/-! ### The fetched instruction -/

/-- The bytes fetched before an instruction's own rule starts: JSR's high operand byte is left to JSR (R93, R251). -/
theorem fetchedBytes_decodeOpcode (op b1 b2 : Byte) :
    fetchedBytes (decodeOpcode op b1 b2) = if op = 0x20 then 2 else operandCount op + 1 := by
  obtain ⟨aaa, bbb, cc, rfl⟩ := exists_opcodeByte op
  fin_cases aaa <;> fin_cases bbb <;> fin_cases cc <;> rfl

/-- A row with fewer than two operand bytes is not JSR's. -/
theorem opcode_ne_jsr {op : Byte} (h : operandCount op < 2) : op ≠ 0x20 := by
  rintro rfl
  exact absurd h (by decide)

/-- The step fetches the instruction that the next bytes decode to, and stops after the bytes that go before the
instruction's own rule (R93, R120, R251). -/
theorem fetchInstr_of_decode {s : State} {i : Instr} {rest : List Byte} (h : decode (nextBytes s) = .ok (i, rest)) :
    fetchInstr s = (i, afterFetches (fetchedBytes i) s) := by
  have hlength := fetchedBytes_decodeOpcode (fetch s).1
  unfold nextBytes decode at h
  unfold fetchInstr
  rcases hn : operandCount (fetch s).1 with _ | _ | _ | n
  case zero | succ.zero =>
    have hne := opcode_ne_jsr (op := (fetch s).1) (by omega)
    simp only [hn, if_neg hne] at h hlength ⊢
    cases h
    rw [hlength]
    rfl
  case succ.succ.zero =>
    simp only [hn] at h hlength ⊢
    cases h
    rw [hlength]
    split <;> rfl
  case succ.succ.succ =>
    simp only [hn] at h
    cases h

/-- The end of an instruction step: only the mask of the next IRQ check is written (R345). -/
theorem retire_eq (i : Instr) (s t : State) :
    retire i s t = { t with irqPollMask := if i = .cli ∨ i = .sei ∨ i = .plp then s.flags.i else t.flags.i } := by
  simp only [retire, delaysPoll_iff]
  rfl

/-- Settles O15: the fetched instruction is the decoded one, it has a next state, and `retire` sets the mask. -/
theorem stepRunsTheDecodedInstruction : Obligations.StepRunsTheDecodedInstruction := by
  intro s i rest hq hdecode
  have hfetch := fetchInstr_of_decode hdecode
  obtain ⟨u, hu⟩ := exec_total i (afterFetches (fetchedBytes i) s)
  have hstep := step_of_exec (u := u) hq (by rw [hfetch]; exact hu)
  rw [hstep, hu, hfetch, retire_eq]

/-! ### The mask of the next IRQ check -/

/-- The fetched instruction is a row of the opcode byte at PC (R93). -/
theorem fetchInstr_fst (s : State) : ∃ b1 b2, (fetchInstr s).1 = decodeOpcode (busValue s.pc s) b1 b2 := by
  unfold fetchInstr
  dsimp only
  split
  case h_1 => exact ⟨_, _, rfl⟩
  case h_2 => exact ⟨_, _, rfl⟩
  case h_3 => split <;> exact ⟨_, _, rfl⟩

/-- CLI, SEI and PLP by their opcode bytes (R96, R345). -/
theorem delaysPoll_decodeOpcode (op b1 b2 : Byte) :
    delaysPoll (decodeOpcode op b1 b2) = decide (op = 0x58 ∨ op = 0x78 ∨ op = 0x28) := by
  obtain ⟨aaa, bbb, cc, rfl⟩ := exists_opcodeByte op
  fin_cases aaa <;> fin_cases bbb <;> fin_cases cc <;> rfl

/-- Settles O28: `retire` reads the old I for the three opcode bytes of CLI, SEI and PLP; an entry and a reset write
the mask themselves. -/
theorem pollMaskLagsOnlyAfterCliSeiPlp : Obligations.PollMaskLagsOnlyAfterCliSeiPlp := by
  refine ⟨fun s t hq h => ?quiet, fun _ _ => rfl, fun _ => rfl⟩
  case quiet =>
    obtain ⟨u, -, rfl⟩ := step_quiet_cases hq h
    obtain ⟨b1, b2, hi⟩ := fetchInstr_fst s
    simp only [retire, hi, delaysPoll_decodeOpcode, decide_eq_true_eq]
    rfl

end Sys2Proof.Machine
end

section
/-! SUPPORT. Interrupt entry, its stack frame and the return from it, and the jammed machine. -/

namespace Sys2Proof.Machine

/-! ### Entry -/

section
variable (vector : Word) (b : Bool) (s : State)

@[simp] theorem takeInterrupt_sp : (takeInterrupt vector b s).sp = s.sp - 3 := by
  have hsp : s.sp - 2#8 - 1#8 = s.sp - 3#8 := by bv_omega
  simp [takeInterrupt, readWord, push_eq, pushWord_eq, hsp]

@[simp] theorem takeInterrupt_nmiPending : (takeInterrupt vector b s).nmiPending = s.nmiPending := by
  simp [takeInterrupt, readWord, push_eq, pushWord_eq]

@[simp] theorem takeInterrupt_irqLine : (takeInterrupt vector b s).irqLine = s.irqLine := by
  simp [takeInterrupt, readWord, push_eq, pushWord_eq]

/-- The only memory that taking an interrupt writes is its frame (R346, R262). -/
theorem takeInterrupt_ram : (takeInterrupt vector b s).ram = (frameWritten b s).ram := by
  simp [takeInterrupt, readWord, push_eq, pushWord_eq, frameWritten, ownerWrite_eq]

@[simp] theorem hardwareEntry_sp : (hardwareEntry vector s).sp = s.sp - 3 := takeInterrupt_sp vector false s

@[simp] theorem hardwareEntry_nmiPending : (hardwareEntry vector s).nmiPending = s.nmiPending :=
  takeInterrupt_nmiPending vector false s

@[simp] theorem hardwareEntry_irqLine : (hardwareEntry vector s).irqLine = s.irqLine :=
  takeInterrupt_irqLine vector false s

theorem hardwareEntry_ram : (hardwareEntry vector s).ram = (frameWritten false s).ram :=
  takeInterrupt_ram vector false s
end

/-- A state with the stack that an entry left holds the entry's frame (R346). -/
theorem stackByte_of_entry {vector : Word} {s u : State} (hs : s.Inv) (hram : u.ram = (hardwareEntry vector s).ram) :
    stackByte s.sp u = hiByte s.pc ∧ stackByte (s.sp - 1) u = loByte s.pc ∧
      stackByte (s.sp - 2) u = packP false s.flags := by
  obtain ⟨hwf, -⟩ := hs
  have hframe (p : Byte) := stackByte_ram_congr p (hram.trans (hardwareEntry_ram vector s))
  simp only [hframe]
  exact stackByte_frameWritten false s hwf

/-- Settles O25: the whole state is `takeInterrupt_eq` at either vector, and a canonical RAM reads the frame back. -/
theorem interruptEntryPushesAndVectors : Obligations.InterruptEntryPushesAndVectors := by
  intro vector s hvector
  refine ⟨?whole, fun hs => stackByte_of_entry hs rfl⟩
  case whole =>
    have hlo : 0x8000 ≤ vector.toNat := by rcases hvector with rfl | rfl <;> decide
    have hhi : vector.toNat < 0xFFFF := by rcases hvector with rfl | rfl <;> decide
    rw [hardwareEntry, takeInterrupt_eq hlo hhi, frameWritten_eq]
    rfl

/-- Settles O29: the three bytes that RTI pulls are the frame the entry pushed. -/
theorem rtiResumesTheInterruptedInstruction : Obligations.RtiResumesTheInterruptedInstruction := by
  intro vector s u hs hsp hram
  obtain ⟨hhi, hlo, hstatus⟩ := stackByte_of_entry hs hram
  rw [hardwareEntry_sp] at hsp
  have h1 : u.sp + 1 = s.sp - 2 := by bv_omega
  have h2 : u.sp + 2 = s.sp - 1 := by bv_omega
  have h3 : u.sp + 3 = s.sp := by bv_omega
  refine ⟨_, rfl, ?_⟩
  rw [returnFromInterrupt_eq, h1, h2, h3, hhi, hlo, hstatus, cat_hiByte_loByte, unpackP_packP]
  exact ⟨rfl, rfl, rfl, rfl, rfl, rfl⟩

/-! ### What a boundary takes -/

/-- A jammed machine idles, whatever its latches hold (R353). -/
theorem boundary_of_jammed {s : State} (hj : s.jammed = true) : boundary s = some (jammedStep s) := if_pos hj

/-- A latched NMI goes first (R343, R349). -/
theorem boundary_of_nmi {s : State} (hj : s.jammed = false) (hn : s.nmiPending = true) :
    boundary s = some (nmiEntry s) := by
  simp [boundary, hj, hn]

/-- An unmasked IRQ goes next (R344, R349). -/
theorem boundary_of_irq {s : State} (hj : s.jammed = false) (hn : s.nmiPending = false) (hi : s.irqLine = true)
    (hm : s.irqPollMask = false) : boundary s = some (irqEntry s) := by
  simp [boundary, hj, hn, hi, hm]

/-- Settles O24: the jammed case of the boundary, and the record update that each host operation is. -/
theorem jamHaltsTheMachineUntilReset : Obligations.JamHaltsTheMachineUntilReset := fun _ _ =>
  ⟨rfl, fun hj => ⟨step_of_boundary (boundary_of_jammed hj), hj, hj, hj, rfl⟩⟩

/-- Settles O26: the NMI case of the boundary; the entry itself changes neither the latch nor the line. -/
theorem nmiIsTakenFirst : Obligations.NmiIsTakenFirst := fun s hj hn =>
  ⟨nmiEntry s, step_of_boundary (boundary_of_nmi hj hn), rfl, hardwareEntry_nmiPending nmiVector _,
    hardwareEntry_irqLine nmiVector _, rfl⟩

end Sys2Proof.Machine
end

section
/-! SUPPORT. The level of the IRQ line is not read by an instruction: every operation commutes with setting it. -/

namespace Sys2Proof.Machine

section
variable (l : Bool) (s : State)

theorem State.tick_setIrqLine (k : Nat) : (s.setIrqLine l).tick k = (s.tick k).setIrqLine l := rfl

/-- A bus write does not read the line. -/
theorem ownerWrite_setIrqLine (a : Word) (v : Byte) :
    ownerWrite a v (s.setIrqLine l) = (ownerWrite a v s).setIrqLine l := by
  rw [ownerWrite_eq, ownerWrite_eq]; rfl

theorem readMem_setIrqLine (m : MemOperand) :
    readMem m (s.setIrqLine l) = ((readMem m s).1, (readMem m s).2.setIrqLine l) := by
  cases m <;> rfl

theorem readSource_setIrqLine (o : Source) :
    readSource o (s.setIrqLine l) = ((readSource o s).1, (readSource o s).2.setIrqLine l) := by
  cases o with
  | imm => rfl
  | mem m => exact readMem_setIrqLine l s m

theorem writeMem_setIrqLine (m : MemOperand) (v : Byte) :
    writeMem m v (s.setIrqLine l) = (writeMem m v s).setIrqLine l := by
  simp only [writeMem_eq, ownerWrite_setIrqLine]
  cases m <;> rfl

theorem writeHigh_setIrqLine (m : MemOperand) (r : Byte) :
    writeHigh m r (s.setIrqLine l) = (writeHigh m r s).setIrqLine l := by
  simp only [writeHigh_eq, ownerWrite_setIrqLine]
  cases m <;> rfl

theorem modifyMem_setIrqLine (m : MemOperand) (f : Byte → Byte) :
    modifyMem m f (s.setIrqLine l) = ((modifyMem m f s).1, (modifyMem m f s).2.setIrqLine l) := by
  simp only [modifyMem_eq, writeBack, ownerWrite_setIrqLine]
  cases m <;> rfl

theorem shiftPlace_setIrqLine (p : Place) (f : Byte → Shifted) :
    shiftPlace p f (s.setIrqLine l) = (shiftPlace p f s).setIrqLine l := by
  cases p with
  | acc => rfl
  | mem m => simp only [shiftPlace, modifyPlace, modifyMem_setIrqLine]; rfl

theorem push_setIrqLine (v : Byte) : push v (s.setIrqLine l) = (push v s).setIrqLine l := by
  simp only [push_eq, ownerWrite_setIrqLine]; rfl

theorem pushWord_setIrqLine (w : Word) : pushWord w (s.setIrqLine l) = (pushWord w s).setIrqLine l := by
  simp only [pushWord, push_setIrqLine]

theorem takeInterrupt_setIrqLine (vector : Word) (b : Bool) :
    takeInterrupt vector b (s.setIrqLine l) = (takeInterrupt vector b s).setIrqLine l := by
  simp only [takeInterrupt, State.setIrqLine_pc, State.setIrqLine_flags, pushWord_setIrqLine, push_setIrqLine]; rfl

theorem branch_setIrqLine (taken : Bool) (off : Byte) :
    branch taken off (s.setIrqLine l) = (branch taken off s).setIrqLine l := by
  cases taken <;> rfl

theorem fetchInstr_setIrqLine :
    fetchInstr (s.setIrqLine l) = ((fetchInstr s).1, (fetchInstr s).2.setIrqLine l) := by
  have hfetch (t : State) : fetch (t.setIrqLine l) = ((fetch t).1, (fetch t).2.setIrqLine l) := rfl
  unfold fetchInstr
  simp only [hfetch]
  split
  case h_1 | h_2 => rfl
  case h_3 => split <;> rfl
end

/-- No instruction reads or writes the level of the IRQ line (R344). -/
theorem exec_setIrqLine (l : Bool) {i : Instr} {s t : State} (h : exec i s = .next t) :
    exec i (s.setIrqLine l) = .next (t.setIrqLine l) := by
  cases i with
  | lda | ldx | ldy | adc | sbc | and | ora | eor | cmp | cpx | cpy =>
    cases h
    simp only [exec_lda, execLda, exec_ldx, execLdx, exec_ldy, execLdy, exec_adc, execAdc, exec_sbc, execSbc, exec_and,
      execAnd, exec_ora, execOra, exec_eor, execEor, exec_cmp, execCmp, exec_cpx, execCpx, exec_cpy, execCpy,
      readSource_setIrqLine]
    rfl
  | bit m | lax m => cases h; cases m <;> rfl
  | las | nopZp | nopZpX | nopAbs | nopAbsX => cases h; rfl
  | sta | stx | sty | sax => cases h; exact congrArg _ (writeMem_setIrqLine l s _ _)
  | sha | shx | shy => cases h; exact congrArg _ (writeHigh_setIrqLine l s _ _)
  | tas => cases h; exact congrArg _ (writeHigh_setIrqLine l (s.setSp _) _ _)
  | inc | dec | slo | rla | sre | rra | dcp | isc =>
    cases h
    simp only [exec_inc, execInc, exec_dec, execDec, exec_slo, execSlo, exec_rla, execRla, exec_sre, execSre, exec_rra,
      execRra, exec_dcp, execDcp, exec_isc, execIsc, State.setIrqLine_flags, modifyMem_setIrqLine]
    rfl
  | asl | lsr | rol | ror => cases h; exact congrArg _ (shiftPlace_setIrqLine l s _ _)
  | bcc | bcs | beq | bne | bmi | bpl | bvc | bvs => cases h; exact congrArg _ (branch_setIrqLine l s _ _)
  | pha | php | jsr =>
    cases h
    simp only [exec_pha, execPha, exec_php, execPhp, exec_jsr, execJsr, State.setIrqLine_pc, push_setIrqLine,
      pushWord_setIrqLine]
    rfl
  | brk => cases h; simp only [exec_brk, execBrk, takeInterrupt_setIrqLine, State.tick_setIrqLine]
  | pla | plp | rts | rti | tax | tay | txa | tya | tsx | txs | inx | iny | dex | dey | anc | alr | arr | ane | lxa
  | sbx | sbcEB | jmpAbs | jmpInd | clc | sec | cli | sei | cld | sed | clv | nop | jam | nopImplied | nopImm =>
    cases h; rfl

/-- A quiet step with the IRQ masked does not depend on the level of the line (R344). -/
theorem step_setIrqLine (l : Bool) {s t : State} (hj : s.jammed = false) (hn : s.nmiPending = false)
    (hm : s.irqPollMask = true) (h : step s = .next t) : step (s.setIrqLine l) = .next (t.setIrqLine l) := by
  have hq : (s.setIrqLine l).Quiet := ⟨hj, hn, .inr hm⟩
  obtain ⟨u, hu, rfl⟩ := step_quiet_cases ⟨hj, hn, .inr hm⟩ h
  have hu' : exec (fetchInstr (s.setIrqLine l)).1 (fetchInstr (s.setIrqLine l)).2 = .next (u.setIrqLine l) := by
    rw [fetchInstr_setIrqLine]
    exact exec_setIrqLine l hu
  rw [step_of_exec hq hu', fetchInstr_setIrqLine]
  rfl

/-- Settles O27: the IRQ case of the boundary, and the quiet step that does not read the line. -/
theorem irqIsTakenWhenUnmasked : Obligations.IrqIsTakenWhenUnmasked := by
  intro s hj hn hi
  refine ⟨fun hm => ⟨step_of_boundary (boundary_of_irq hj hn hi hm), ?line⟩, fun hm t h => ?masked⟩
  case line => rw [hardwareEntry_irqLine, hi]
  case masked =>
    have hs : ({ s with irqLine := false } : State).setIrqLine true = s := by rw [← hi]; rfl
    have hstep := step_setIrqLine true (s := { s with irqLine := false }) hj hn hm h
    rw [hs] at hstep
    exact hstep

end Sys2Proof.Machine
end

section
/-! SUPPORT. The host's operations and the invariant. -/

namespace Sys2Proof.Machine

/-- An image without a configuration error has one of the two PRG sizes and the baseline mapper (R67). -/
theorem of_check_eq_none {img : CartridgeImage} (h : img.check = none) :
    (img.prg.length = 16384 ∨ img.prg.length = 32768) ∧ img.mapperId = Config.baselineMapperId := by
  have hno := mt (check_ne_none_iff img).2 (not_not.2 h)
  obtain ⟨hsize, hmapper⟩ := not_or.1 hno
  exact ⟨by omega, not_not.1 hmapper⟩

/-- The cartridge of an image of one of the two sizes is as long as the image (R67). -/
theorem cartridgeOf_bytes {img : CartridgeImage} (h : img.prg.length = 16384 ∨ img.prg.length = 32768) :
    (cartridgeOf img).prgSize.bytes = img.prg.length := by
  unfold cartridgeOf
  split
  next h16 => exact h16.symm
  next h16 => exact (h.resolve_left h16).symm

/-- The machine before its first reset meets the invariant, for every `RAM_INIT` (R382). -/
theorem beforeReset_inv {img : CartridgeImage} (ramInit : Vector Byte 2048) (h : img.check = none) :
    (beforeReset (cartridgeOf img) ramInit).Inv := by
  obtain ⟨hsize, hmapper⟩ := of_check_eq_none h
  have hram := Memory.ofBytesFrom_within ramInit.toList 0
  have hprg := Memory.ofBytesFrom_within img.prg 0
  rw [Vector.length_toList] at hram
  rw [← cartridgeOf_bytes hsize, Nat.zero_add] at hprg
  exact ⟨Memory.ofBytesFrom_wf _ 0, hram, Memory.ofBytesFrom_wf _ 0, hprg, hmapper⟩

theorem lineOp_keeps_inv (o : LineOp) {s : State} (hs : s.Inv) : (lineOp o s).Inv :=
  (lineOp_onlyStores o s).keeps_inv hs

/-- Settles O20: no host operation writes memory, and power-on is a reset of a machine filled from its image. -/
theorem hostOperationsKeepTheInvariant : Obligations.HostOperationsKeepTheInvariant := by
  refine ⟨fun s o hs => lineOp_keeps_inv o hs, fun img ramInit t h => ?powerOn⟩
  case powerOn =>
    unfold powerOn at h
    split at h
    case h_1 | h_2 => cases h
    case h_3 hcheck =>
      cases h
      exact lineOp_keeps_inv .reset (beforeReset_inv ramInit hcheck)

end Sys2Proof.Machine
end

section
/-! SUPPORT. Reset and power-on as whole next states. -/

namespace Sys2Proof.Machine

/-- The Reset vector lies in the last four bytes of a PRG image of either size (R64, R380). -/
theorem prgByte_resetVector (s : State) :
    prgByte 0xFFFC s = s.cart.prg.read (s.cart.prgSize.bytes - 4) ∧
    prgByte 0xFFFD s = s.cart.prg.read (s.cart.prgSize.bytes - 3) := by
  unfold prgByte
  cases s.cart.prgSize <;> exact ⟨rfl, rfl⟩

/-- All that `reset()` does (R381). -/
theorem resetLine_eq (s : State) :
    resetLine s =
      { s with
        jammed := false, nmiPending := false, sp := 0xFD, flags := { s.flags with i := true }
        irqPollMask := true, openBus := prgByte 0xFFFD s, pc := cat (prgByte 0xFFFD s) (prgByte 0xFFFC s) } := by
  rw [resetLine, readWord_prg (by decide) (by decide)]
  rfl

/-- Settles O2: `resetLine_eq` with the vector's bytes by their place in PRG, and the one update of each line. -/
theorem hostOperationsDoExactlyTheirEffect : Obligations.HostOperationsDoExactlyTheirEffect := by
  intro s l h
  obtain ⟨hl, hh⟩ : prgByte 0xFFFC s = l ∧ prgByte 0xFFFD s = h := prgByte_resetVector s
  refine ⟨?low, ?high, ?reset, rfl, rfl, rfl⟩
  case low => rw [← hl]; exact busValue_prg (by decide) s
  case high => rw [← hh]; exact busValue_prg (by decide) s
  case reset => rw [resetLine_eq, hl, hh]

/-- A filled memory reads as its bytes from address 0. -/
theorem Memory.read_ofBytes (bs : List Byte) (j : Nat) (h : j < bs.length) :
    (Memory.ofBytesFrom 0 bs).read j = bs[j] := by
  simpa using Memory.read_ofBytesFrom bs 0 j h

/-- Settles O3: a valid image's machine is the reset of one filled from the image and `RAM_INIT`, and `reset()` writes
neither memory. -/
theorem powerOnBuildsTheMachine : Obligations.PowerOnBuildsTheMachine := by
  intro img ramInit
  refine ⟨(powerOn_refused_iff img ramInit).2, fun hcheck => ?built⟩
  case built =>
    obtain ⟨hsize, -⟩ := of_check_eq_none hcheck
    refine ⟨resetLine (beforeReset (cartridgeOf img) ramInit), by rw [powerOn, hcheck], ?_⟩
    rw [resetLine_eq]
    have hram (k : Fin 2048) : (Memory.ofBytesFrom 0 ramInit.toList).read k = ramInit[k] := by
      simp [Memory.read_ofBytes]
    have hprg (k : Fin img.prg.length) : (Memory.ofBytesFrom 0 img.prg).read k = img.prg[k] :=
      Memory.read_ofBytes img.prg k k.isLt
    exact ⟨rfl, rfl, rfl, rfl, rfl, rfl, rfl, rfl, rfl, rfl, hram, hprg, cartridgeOf_bytes hsize, rfl, rfl, rfl, rfl, rfl⟩

end Sys2Proof.Machine
end

section
/-! SUPPORT. The cycles of an instruction and of a step: what each shared operation counts, against the rows of the
opcode table. -/

namespace Sys2Proof.Machine

open Sys2Proof.Laws.Encoding (exists_opcodeByte)

/-! ### What the shared operations count -/

section
variable (s : State)

@[simp] theorem addToA_cycles (m : Byte) : (addToA m s).cycles = s.cycles := rfl

@[simp] theorem resultToA_cycles (v : Byte) : (resultToA v s).cycles = s.cycles := rfl

@[simp] theorem compareWith_cycles (reg m : Byte) : (compareWith reg m s).cycles = s.cycles := rfl

@[simp] theorem push_cycles (v : Byte) : (push v s).cycles = s.cycles := by simp [push_eq]

@[simp] theorem pushWord_cycles (w : Word) : (pushWord w s).cycles = s.cycles := by simp [pushWord]

@[simp] theorem pull_cycles : (pull s).2.cycles = s.cycles := by simp [pull_eq]

@[simp] theorem pullWord_cycles : (pullWord s).2.cycles = s.cycles := by simp [pullWord_eq]

@[simp] theorem returnFromInterrupt_cycles : (returnFromInterrupt s).cycles = s.cycles := by
  simp [returnFromInterrupt_eq]

@[simp] theorem takeInterrupt_cycles (vector : Word) (b : Bool) : (takeInterrupt vector b s).cycles = s.cycles := by
  simp [takeInterrupt, readWord]

/-- An entry takes 7 cycles (R396). -/
@[simp] theorem hardwareEntry_cycles (vector : Word) : (hardwareEntry vector s).cycles = s.cycles + 7 := by
  simp [hardwareEntry]

@[simp] theorem readSource_cycles (o : Source) : (readSource o s).2.cycles = s.cycles + operandCycles o s := by
  simp [readSource_eq]

@[simp] theorem readMem_cycles (m : MemOperand) :
    (readMem m s).2.cycles = s.cycles + (readCycles m + (crossedPage m s).toNat) := by
  simp [readMem_eq]

@[simp] theorem writeMem_cycles (m : MemOperand) (v : Byte) : (writeMem m v s).cycles = s.cycles + writeCycles m := by
  simp [writeMem_eq]

@[simp] theorem writeHigh_cycles (m : MemOperand) (r : Byte) :
    (writeHigh m r s).cycles = s.cycles + writeCycles m := by
  simp [writeHigh_eq]

@[simp] theorem modifyMem_cycles (m : MemOperand) (f : Byte → Byte) :
    (modifyMem m f s).2.cycles = s.cycles + modifyCycles m := by
  simp [modifyMem_eq]

/-- A branch counts 2, one more if taken, one more if taken to another page (R253, R396). -/
theorem branch_cycles (taken : Bool) (off : Byte) :
    (branch taken off s).cycles = s.cycles + (2 + taken.toNat +
      (taken && hiByte (BitVec.ofInt 16 (s.pc.toNat + off.toInt)) != hiByte s.pc).toNat) := by
  rw [← add_sext16_eq_ofInt]
  cases taken with
  | false => rfl
  | true => rw [branch, if_pos rfl, State.tick_cycles, Bool.true_and, ← Nat.add_assoc 2]; rfl
end

/-! ### The rows of the table -/

/-- An instruction counts what its row says (R396, R397, R135): the access of each operand form counts the base cycles
of that form's row, and the surcharge where the row has it. -/
theorem exec_cycles {i : Instr} {op : Byte} {s t : State} (hop : opcodeOf i = some op) (h : exec i s = .next t) :
    t.cycles = s.cycles + instrCycles i op s := by
  cases i with
  | lda o | ldx o | ldy o | adc o | sbc o | and o | ora o | eor o | cmp o | cpx o | cpy o =>
    have hcount : t.cycles = s.cycles + operandCycles o s := by cases h; simp
    rw [hcount]
    cases o with
    | imm => cases hop; rfl
    | mem m => cases m <;> cases hop <;> rfl
  | bit m | lax m =>
    have hcount : t.cycles = s.cycles + (readCycles m + (crossedPage m s).toNat) := by cases h; simp
    rw [hcount]
    cases m <;> cases hop <;> rfl
  | nopZp r | nopZpX r | nopAbsX r => cases h; rw [readMem_cycles]; cases r <;> cases hop <;> rfl
  | nopAbs => cases h; rw [readMem_cycles]; cases hop; rfl
  | las w =>
    have hcount : t.cycles = s.cycles + (4 + (crossedPage (.absY w) s).toNat) := by cases h; simp [readCycles]
    rw [hcount]
    cases hop; rfl
  | sta m | stx m | sty m | sax m => cases h; rw [writeMem_cycles]; cases m <;> cases hop <;> rfl
  | sha o => cases h; rw [writeHigh_cycles]; cases o <;> cases hop <;> rfl
  | shx | shy | tas => cases h; rw [writeHigh_cycles]; cases hop; rfl
  | inc m | dec m | slo m | rla m | sre m | rra m | dcp m | isc m =>
    have hcount : t.cycles = s.cycles + modifyCycles m := by cases h; simp
    rw [hcount]
    cases m <;> cases hop <;> rfl
  | asl p | lsr p | rol p | ror p =>
    cases h
    cases p with
    | acc => cases hop; rfl
    | mem m => rw [shiftPlace_mem, State.setFlags_cycles, modifyMem_cycles]; cases m <;> cases hop <;> rfl
  | bcc | bcs | beq | bne | bmi | bpl | bvc | bvs => cases h; exact branch_cycles s _ _
  | pha | php =>
    have hcount : t.cycles = s.cycles + 3 := by cases h; simp
    rw [hcount]
    cases hop; rfl
  | jsr | rts | rti =>
    have hcount : t.cycles = s.cycles + 6 := by cases h; simp
    rw [hcount]
    cases hop; rfl
  | brk =>
    have hcount : t.cycles = s.cycles + 7 := by cases h; simp
    rw [hcount]
    cases hop; rfl
  | jam r | nopImplied r | nopImm r | anc r => cases h; cases r <;> cases hop <;> rfl
  | pla | plp | tax | tay | txa | tya | tsx | txs | inx | iny | dex | dey | alr | arr | ane | lxa | sbx | sbcEB | jmpAbs
  | jmpInd | clc | sec | cli | sei | cld | sed | clv | nop => cases h; cases hop; rfl

/-! ### Steps -/

/-- A step that takes an NMI or an IRQ takes the 7 cycles of an entry (R396). -/
theorem step_interrupt_cycles {s t : State} (hj : s.jammed = false)
    (hi : s.nmiPending = true ∨ (s.irqLine = true ∧ s.irqPollMask = false)) (h : step s = .next t) :
    t.cycles = s.cycles + 7 := by
  cases hn : s.nmiPending with
  | true =>
    rw [step_of_boundary (boundary_of_nmi hj hn)] at h
    cases h
    exact hardwareEntry_cycles (s.setNmiPending false) nmiVector
  | false =>
    obtain ⟨hline, hmask⟩ := hi.resolve_left (by simp [hn])
    rw [step_of_boundary (boundary_of_irq hj hn hline hmask)] at h
    cases h
    exact hardwareEntry_cycles s irqVector

/-- A jammed step takes 1 cycle (R291, R396). -/
theorem step_jammed_cycles {s t : State} (hj : s.jammed = true) (h : step s = .next t) : t.cycles = s.cycles + 1 := by
  rw [step_of_boundary (boundary_of_jammed hj)] at h
  cases h
  rfl

theorem retire_cycles (i : Instr) (s t : State) : (retire i s t).cycles = t.cycles := rfl

/-- A quiet step counts what its instruction counts: fetching it and retiring it count nothing (R396). -/
theorem step_quiet_cycles {s t : State} {op : Byte} (hq : s.Quiet) (hop : opcodeOf (fetchInstr s).1 = some op)
    (h : step s = .next t) : t.cycles = s.cycles + instrCycles (fetchInstr s).1 op (fetchInstr s).2 := by
  obtain ⟨u, hu, rfl⟩ := step_quiet_cases hq h
  obtain ⟨p, b, hfetch⟩ := fetchInstr_snd s
  have hstart : (fetchInstr s).2.cycles = s.cycles := by rw [hfetch]; rfl
  rw [retire_cycles, exec_cycles hop hu, hstart]

/-- Settles O23: `exec_cycles` row by row, and the step case by case. -/
theorem instructionCyclesFollowTheTable : Obligations.InstructionCyclesFollowTheTable := by
  refine ⟨fun i op s t => exec_cycles, fun s t h => ⟨fun hj => step_jammed_cycles hj h,
    fun hj hi => step_interrupt_cycles hj hi h, fun hq i rest op hdecode hop => ?quiet⟩⟩
  case quiet =>
    have hcount := step_quiet_cycles (op := op) hq (by rwa [fetchInstr_of_decode hdecode]) h
    rwa [fetchInstr_of_decode hdecode] at hcount

/-! ### Ranges -/

/-- The base cycles of every row, with its surcharge (R399). -/
theorem descriptor_cycles_range (op : Byte) :
    2 ≤ (descriptor op).cycles ∧ (descriptor op).cycles + (descriptor op).pagePenalty.toNat ≤ 8 := by
  obtain ⟨aaa, bbb, cc, rfl⟩ := exists_opcodeByte op
  revert aaa bbb cc
  decide

/-- A branch takes 2 to 4 cycles (R399). -/
theorem instrCycles_branch_range {i : Instr} {s : State} {taken : Bool} {off : Byte} (op : Byte)
    (h : branchOf i s.flags = some (taken, off)) : 2 ≤ instrCycles i op s ∧ instrCycles i op s ≤ 4 := by
  have hone := Bool.toNat_le
  simp only [instrCycles, h]
  exact ⟨by omega, Nat.add_le_add (Nat.add_le_add_left (hone _) 2) (hone _)⟩

/-- An instruction takes 2 to 8 cycles (R399). -/
theorem instrCycles_range (i : Instr) (op : Byte) (s : State) : 2 ≤ instrCycles i op s ∧ instrCycles i op s ≤ 8 := by
  cases hb : branchOf i s.flags with
  | some r =>
    obtain ⟨hlo, hhi⟩ := instrCycles_branch_range op hb
    omega
  | none =>
    obtain ⟨hlo, hhi⟩ := descriptor_cycles_range op
    have hextra : ((descriptor op).pagePenalty && pageCrossed i s).toNat ≤ (descriptor op).pagePenalty.toNat :=
      Bool.toNat_le_toNat (Bool.and_le_left _ _)
    simp only [instrCycles, hb]
    omega

/-- The decoder's row of an opcode byte is the encoder's (R96). -/
theorem opcodeOf_decodeOpcode (op b1 b2 : Byte) : opcodeOf (decodeOpcode op b1 b2) = some op := by
  have hbytes := encode_decodeOpcode op b1 b2
  unfold encode at hbytes
  split at hbytes
  next hop => rw [hop, (List.cons.inj hbytes).1]
  next => cases hbytes

/-- Settles O22, from the exact counts: 1, 7, or what the fetched instruction's row says. -/
theorem stepCyclesAreInRange : Obligations.StepCyclesAreInRange := by
  refine ⟨fun s t h => ?range, fun s t hj h => step_jammed_cycles hj h, fun v s => hardwareEntry_cycles s v,
    fun b s t i hi h => ?branch⟩
  case range =>
    obtain ⟨hj, -⟩ | ⟨hj, hn, -⟩ | ⟨hj, -, hi, hm, -⟩ | ⟨hq, -⟩ := step_cases h
    · rw [step_jammed_cycles hj h]; omega
    · rw [step_interrupt_cycles hj (.inl hn) h]; omega
    · rw [step_interrupt_cycles hj (.inr ⟨hi, hm⟩) h]; omega
    · obtain ⟨b1, b2, hfetched⟩ := fetchInstr_fst s
      have hop : opcodeOf (fetchInstr s).1 = some (busValue s.pc s) := by rw [hfetched, opcodeOf_decodeOpcode]
      obtain ⟨hlo, hhi⟩ := instrCycles_range (fetchInstr s).1 (busValue s.pc s) (fetchInstr s).2
      rw [step_quiet_cycles hq hop h]
      omega
  case branch =>
    obtain ⟨op, taken, hop, hbranch⟩ : ∃ op taken, opcodeOf i = some op ∧ branchOf i s.flags = some (taken, b) := by
      fin_cases hi <;> exact ⟨_, _, rfl, rfl⟩
    obtain ⟨hlo, hhi⟩ := instrCycles_branch_range op hbranch
    rw [exec_cycles hop h]
    omega

end Sys2Proof.Machine
end
